-- ==== Sys2Proof/Word.lean ====
section
/-! DEFINITION. The word types of the core (00_scope.md R8, R9): bytes and 16-bit words. -/
namespace Sys2Proof

/-- An 8-bit value, `u8` of R9: a general register, a byte on the bus. -/
abbrev Byte := BitVec 8

/-- A 16-bit value, `u16` of R9: a register pair, SP, PC, a bus address. -/
abbrev Word := BitVec 16

end Sys2Proof
end

