-- ==== Sys2Proof/Machine/Bits.lean ====
section
/-! DEFINITION. The bit notation of 00_scope.md R9: halves of a word, sign extension, single bits. -/
namespace Sys2Proof

/-- `hi:lo` of R9: the word with high byte `hi` and low byte `lo`. -/
def mk16 (hi lo : Byte) : Word := hi ++ lo

/-- `v[15:8]` of R9. -/
def hiByte (v : Word) : Byte := v.extractLsb' 8 8

/-- `v[7:0]` of R9. -/
def loByte (v : Word) : Byte := v.extractLsb' 0 8

/-- `sext_16(v)` of R9: bit 7 copied into bits 15 to 8. -/
def sext16 (v : Byte) : Word := v.signExtend 16

/-- `zext_16(v)` of R9. -/
def zext16 (v : Byte) : Word := v.setWidth 16

/-- A bit as a number, for sums that take a carry in. -/
def bitNat (b : Bool) : Nat := if b then 1 else 0

/-- A bit as a byte: 0x00 or 0x01. -/
def bitByte (b : Bool) : Byte := if b then 1 else 0

end Sys2Proof
end

