-- ==== Sys2Proof/Machine/Store.lean ====
section
/-! DEFINITION. The backing stores of 20_memory.md R101 as plain data: a list of (index, value) pairs in one canonical
form (indices strictly rising, no entry equal to what an unlisted index reads as), so that equal stores are equal lists. -/
namespace Sys2Proof

/-- A store of `w`-bit cells. Byte stores (`w = 8`) hold memory, the 2-bit store holds the frame buffer. -/
abbrev Store (w : Nat) := List (Nat × BitVec w)

/-- A byte store: a list of `Host.Cell`. -/
abbrev Memory := List Host.Cell

/-- What an index that is not listed reads as. DESIGN CHOICE (log entry 2): the spec leaves RAM contents at reset to a
draw (R85, D19); a store lists the bytes that differ from 0. Unsafe: a proof can lean on this zero. -/
def Store.unlisted (w : Nat) : BitVec w := 0

/-- The cell at index `a`. -/
def Store.read {w : Nat} : Store w → Nat → BitVec w
  | [], _ => Store.unlisted w
  | (b, x) :: rest, a => if a = b then x else Store.read rest a

/-- Puts `v` in front of a store whose indices are all larger than `a`. -/
def Store.put {w : Nat} (a : Nat) (v : BitVec w) (m : Store w) : Store w :=
  if v = Store.unlisted w then m else (a, v) :: m

/-- Writes `v` at index `a`, keeping the canonical form: writing the unlisted value removes the entry. -/
def Store.write {w : Nat} : Store w → Nat → BitVec w → Store w
  | [], a, v => Store.put a v []
  | (b, x) :: rest, a, v =>
    if a < b then Store.put a v ((b, x) :: rest)
    else if a = b then Store.put a v rest
    else (b, x) :: Store.write rest a v

/-- The canonical form from index `lo` on: indices at least `lo` and strictly rising, no unlisted value listed. -/
def Store.wfFrom {w : Nat} : Nat → Store w → Bool
  | _, [] => true
  | lo, (a, v) :: rest => decide (lo ≤ a) && v != Store.unlisted w && Store.wfFrom (a + 1) rest

/-- The canonical form. -/
def Store.wf {w : Nat} (m : Store w) : Bool := Store.wfFrom 0 m

/-- Every listed index lies below `n`, the size of the buffer. -/
def Store.below {w : Nat} (n : Nat) (m : Store w) : Bool := m.all fun c => decide (c.1 < n)

/-- The canonical form of a byte store. -/
def Memory.wf (m : Memory) : Bool := Store.wf m

end Sys2Proof
end

