-- ==== Sys2Proof/Config.lean ====
section
/-! DEFINITION. The parameters of 00_scope.md R8, each fixed for a whole run. They are plain data carried in the state,
so that a statement about every state is a statement about every parameter; no step changes them (DESIGN CHOICE, log
entry 6). `CART_KIND` is the
tag of the bank state (R77), `ROM_BANKS` and `RAM_BANKS` are derived, `INIT_DRAW` is an argument of the reset. -/
namespace Sys2Proof

/-- `CART_KIND` of R8. -/
inductive CartKind where
  /-- no controller -/
  | none
  | mbc1
  | mbc3
deriving DecidableEq, Repr

/-- `HALT_WAKE` of R8: which requests end HALT (R402, D5). -/
inductive HaltWake where
  /-- a request whose enable bit is set (the default) -/
  | enabledRequest
  /-- any request -/
  | anyRequest
deriving DecidableEq, Repr

/-- `STOP_MODE` of R8: the meaning of STOP (R352, R353, D10). -/
inductive StopMode where
  /-- STOP ends the run with a refusal (the default) -/
  | refuse
  /-- STOP stops CPU, Timer and PPU until a selected button is pressed -/
  | lowPower
deriving DecidableEq, Repr

/-- The parameters of R8. The defaults are R8's; the open ones (`BOOT_ROM`, `ROM_IMAGE`, `RAM_SIZE`) default to
all-zero images of the smallest legal size (DESIGN CHOICE, log entry 3). -/
structure Config where
  /-- `BOOT_ROM`, 256 bytes -/
  bootRom : Memory := []
  /-- `ROM_IMAGE`, the bytes that differ from 0 -/
  rom : Memory := []
  /-- `len(ROM_IMAGE)` -/
  romLen : Nat := 32768
  /-- `RAM_SIZE` in bytes -/
  ramSize : Nat := 0
  /-- `UNUSABLE_READ_VALUE` (D12) -/
  unusableRead : Byte := 0xFF
  /-- `DISABLED_RAM_READ_VALUE` (D13) -/
  disabledRamRead : Byte := 0xFF
  /-- `RTC_READ_VALUE` (D32) -/
  rtcRead : Byte := 0x00
  /-- `HALT_WAKE` (D5) -/
  haltWake : HaltWake := .enabledRequest
  /-- `HALT_BUG` (D6) -/
  haltBug : Bool := true
  /-- `STOP_MODE` (D10) -/
  stopMode : StopMode := .refuse
  /-- `SKIP_BOOT` (D21), read by the reset only -/
  skipBoot : Bool := false
deriving DecidableEq, Repr

/-- `ROM_BANKS` of R8. -/
def Config.romBanks (c : Config) : Nat := c.romLen / 0x4000

/-- `RAM_BANKS` of R8. -/
def Config.ramBanks (c : Config) : Nat := max 1 (c.ramSize / 0x2000)

/-- The external RAM sizes a cartridge may have (R8, R604). -/
def legalRamSizes : List Nat := [0, 2048, 8192, 32768, 65536, 131072]

end Sys2Proof
end

