-- ==== Sys2Proof/Syntax.lean ====
section
/-! DEFINITION. The instructions of the LR35902 as `spec/opcode_table.json` lists them (30_encoding.md R181, R182):
one constructor per mnemonic of the table, in the table's order, its name the mnemonic's own spelling
(`at` stands for the parentheses of a memory operand, `inc`/`dec` for HL+ and HL-). An argument is an operand
byte or word of the instruction stream, kept as the stream holds it (R172, R180). The eleven undefined bytes are
the table's one mnemonic UNDEFINED; its constructor carries which byte it is. -/
namespace Sys2Proof

/-- An instruction. The comment of a constructor gives its opcode byte(s), its mnemonic in the spec's text and its rule. -/
inductive Instr where
  /-- 00: NOP (R350) -/
  | nop
  /-- 01: LD BC,d16 (R230) -/
  | ld_BC_d16 (nn : Word)
  /-- 02: LD (BC),A (R207) -/
  | ld_atBC_A
  /-- 03: INC BC (R282) -/
  | inc_BC
  /-- 04: INC B (R259) -/
  | inc_B
  /-- 05: DEC B (R261) -/
  | dec_B
  /-- 06: LD B,d8 (R201) -/
  | ld_B_d8 (n : Byte)
  /-- 07: RLCA (R290) -/
  | rlca
  /-- 08: LD (a16),SP (R231) -/
  | ld_at_a16_SP (nn : Word)
  /-- 09: ADD HL,BC (R280) -/
  | add_HL_BC
  /-- 0A: LD A,(BC) (R205) -/
  | ld_A_atBC
  /-- 0B: DEC BC (R283) -/
  | dec_BC
  /-- 0C: INC C (R259) -/
  | inc_C
  /-- 0D: DEC C (R261) -/
  | dec_C
  /-- 0E: LD C,d8 (R201) -/
  | ld_C_d8 (n : Byte)
  /-- 0F: RRCA (R291) -/
  | rrca
  /-- 10: STOP (R352) -/
  | stop (x : Byte)
  /-- 11: LD DE,d16 (R230) -/
  | ld_DE_d16 (nn : Word)
  /-- 12: LD (DE),A (R208) -/
  | ld_atDE_A
  /-- 13: INC DE (R282) -/
  | inc_DE
  /-- 14: INC D (R259) -/
  | inc_D
  /-- 15: DEC D (R261) -/
  | dec_D
  /-- 16: LD D,d8 (R201) -/
  | ld_D_d8 (n : Byte)
  /-- 17: RLA (R292) -/
  | rla
  /-- 18: JR e8 (R324) -/
  | jr_e8 (e : Byte)
  /-- 19: ADD HL,DE (R280) -/
  | add_HL_DE
  /-- 1A: LD A,(DE) (R206) -/
  | ld_A_atDE
  /-- 1B: DEC DE (R283) -/
  | dec_DE
  /-- 1C: INC E (R259) -/
  | inc_E
  /-- 1D: DEC E (R261) -/
  | dec_E
  /-- 1E: LD E,d8 (R201) -/
  | ld_E_d8 (n : Byte)
  /-- 1F: RRA (R293) -/
  | rra
  /-- 20: JR NZ,e8 (R325) -/
  | jr_NZ_e8 (e : Byte)
  /-- 21: LD HL,d16 (R230) -/
  | ld_HL_d16 (nn : Word)
  /-- 22: LD (HL+),A (R215) -/
  | ld_atHLinc_A
  /-- 23: INC HL (R282) -/
  | inc_HL
  /-- 24: INC H (R259) -/
  | inc_H
  /-- 25: DEC H (R261) -/
  | dec_H
  /-- 26: LD H,d8 (R201) -/
  | ld_H_d8 (n : Byte)
  /-- 27: DAA (R263) -/
  | daa
  /-- 28: JR Z,e8 (R325) -/
  | jr_Z_e8 (e : Byte)
  /-- 29: ADD HL,HL (R280) -/
  | add_HL_HL
  /-- 2A: LD A,(HL+) (R217) -/
  | ld_A_atHLinc
  /-- 2B: DEC HL (R283) -/
  | dec_HL
  /-- 2C: INC L (R259) -/
  | inc_L
  /-- 2D: DEC L (R261) -/
  | dec_L
  /-- 2E: LD L,d8 (R201) -/
  | ld_L_d8 (n : Byte)
  /-- 2F: CPL (R264) -/
  | cpl
  /-- 30: JR NC,e8 (R325) -/
  | jr_NC_e8 (e : Byte)
  /-- 31: LD SP,d16 (R230) -/
  | ld_SP_d16 (nn : Word)
  /-- 32: LD (HL-),A (R216) -/
  | ld_atHLdec_A
  /-- 33: INC SP (R282) -/
  | inc_SP
  /-- 34: INC (HL) (R260) -/
  | inc_atHL
  /-- 35: DEC (HL) (R262) -/
  | dec_atHL
  /-- 36: LD (HL),d8 (R204) -/
  | ld_atHL_d8 (n : Byte)
  /-- 37: SCF (R265) -/
  | scf
  /-- 38: JR C,e8 (R325) -/
  | jr_C_e8 (e : Byte)
  /-- 39: ADD HL,SP (R280) -/
  | add_HL_SP
  /-- 3A: LD A,(HL-) (R218) -/
  | ld_A_atHLdec
  /-- 3B: DEC SP (R283) -/
  | dec_SP
  /-- 3C: INC A (R259) -/
  | inc_A
  /-- 3D: DEC A (R261) -/
  | dec_A
  /-- 3E: LD A,d8 (R201) -/
  | ld_A_d8 (n : Byte)
  /-- 3F: CCF (R266) -/
  | ccf
  /-- 40: LD B,B (R200) -/
  | ld_B_B
  /-- 41: LD B,C (R200) -/
  | ld_B_C
  /-- 42: LD B,D (R200) -/
  | ld_B_D
  /-- 43: LD B,E (R200) -/
  | ld_B_E
  /-- 44: LD B,H (R200) -/
  | ld_B_H
  /-- 45: LD B,L (R200) -/
  | ld_B_L
  /-- 46: LD B,(HL) (R202) -/
  | ld_B_atHL
  /-- 47: LD B,A (R200) -/
  | ld_B_A
  /-- 48: LD C,B (R200) -/
  | ld_C_B
  /-- 49: LD C,C (R200) -/
  | ld_C_C
  /-- 4A: LD C,D (R200) -/
  | ld_C_D
  /-- 4B: LD C,E (R200) -/
  | ld_C_E
  /-- 4C: LD C,H (R200) -/
  | ld_C_H
  /-- 4D: LD C,L (R200) -/
  | ld_C_L
  /-- 4E: LD C,(HL) (R202) -/
  | ld_C_atHL
  /-- 4F: LD C,A (R200) -/
  | ld_C_A
  /-- 50: LD D,B (R200) -/
  | ld_D_B
  /-- 51: LD D,C (R200) -/
  | ld_D_C
  /-- 52: LD D,D (R200) -/
  | ld_D_D
  /-- 53: LD D,E (R200) -/
  | ld_D_E
  /-- 54: LD D,H (R200) -/
  | ld_D_H
  /-- 55: LD D,L (R200) -/
  | ld_D_L
  /-- 56: LD D,(HL) (R202) -/
  | ld_D_atHL
  /-- 57: LD D,A (R200) -/
  | ld_D_A
  /-- 58: LD E,B (R200) -/
  | ld_E_B
  /-- 59: LD E,C (R200) -/
  | ld_E_C
  /-- 5A: LD E,D (R200) -/
  | ld_E_D
  /-- 5B: LD E,E (R200) -/
  | ld_E_E
  /-- 5C: LD E,H (R200) -/
  | ld_E_H
  /-- 5D: LD E,L (R200) -/
  | ld_E_L
  /-- 5E: LD E,(HL) (R202) -/
  | ld_E_atHL
  /-- 5F: LD E,A (R200) -/
  | ld_E_A
  /-- 60: LD H,B (R200) -/
  | ld_H_B
  /-- 61: LD H,C (R200) -/
  | ld_H_C
  /-- 62: LD H,D (R200) -/
  | ld_H_D
  /-- 63: LD H,E (R200) -/
  | ld_H_E
  /-- 64: LD H,H (R200) -/
  | ld_H_H
  /-- 65: LD H,L (R200) -/
  | ld_H_L
  /-- 66: LD H,(HL) (R202) -/
  | ld_H_atHL
  /-- 67: LD H,A (R200) -/
  | ld_H_A
  /-- 68: LD L,B (R200) -/
  | ld_L_B
  /-- 69: LD L,C (R200) -/
  | ld_L_C
  /-- 6A: LD L,D (R200) -/
  | ld_L_D
  /-- 6B: LD L,E (R200) -/
  | ld_L_E
  /-- 6C: LD L,H (R200) -/
  | ld_L_H
  /-- 6D: LD L,L (R200) -/
  | ld_L_L
  /-- 6E: LD L,(HL) (R202) -/
  | ld_L_atHL
  /-- 6F: LD L,A (R200) -/
  | ld_L_A
  /-- 70: LD (HL),B (R203) -/
  | ld_atHL_B
  /-- 71: LD (HL),C (R203) -/
  | ld_atHL_C
  /-- 72: LD (HL),D (R203) -/
  | ld_atHL_D
  /-- 73: LD (HL),E (R203) -/
  | ld_atHL_E
  /-- 74: LD (HL),H (R203) -/
  | ld_atHL_H
  /-- 75: LD (HL),L (R203) -/
  | ld_atHL_L
  /-- 76: HALT (R351) -/
  | halt
  /-- 77: LD (HL),A (R203) -/
  | ld_atHL_A
  /-- 78: LD A,B (R200) -/
  | ld_A_B
  /-- 79: LD A,C (R200) -/
  | ld_A_C
  /-- 7A: LD A,D (R200) -/
  | ld_A_D
  /-- 7B: LD A,E (R200) -/
  | ld_A_E
  /-- 7C: LD A,H (R200) -/
  | ld_A_H
  /-- 7D: LD A,L (R200) -/
  | ld_A_L
  /-- 7E: LD A,(HL) (R202) -/
  | ld_A_atHL
  /-- 7F: LD A,A (R200) -/
  | ld_A_A
  /-- 80: ADD A,B (R251) -/
  | add_A_B
  /-- 81: ADD A,C (R251) -/
  | add_A_C
  /-- 82: ADD A,D (R251) -/
  | add_A_D
  /-- 83: ADD A,E (R251) -/
  | add_A_E
  /-- 84: ADD A,H (R251) -/
  | add_A_H
  /-- 85: ADD A,L (R251) -/
  | add_A_L
  /-- 86: ADD A,(HL) (R251) -/
  | add_A_atHL
  /-- 87: ADD A,A (R251) -/
  | add_A_A
  /-- 88: ADC A,B (R252) -/
  | adc_A_B
  /-- 89: ADC A,C (R252) -/
  | adc_A_C
  /-- 8A: ADC A,D (R252) -/
  | adc_A_D
  /-- 8B: ADC A,E (R252) -/
  | adc_A_E
  /-- 8C: ADC A,H (R252) -/
  | adc_A_H
  /-- 8D: ADC A,L (R252) -/
  | adc_A_L
  /-- 8E: ADC A,(HL) (R252) -/
  | adc_A_atHL
  /-- 8F: ADC A,A (R252) -/
  | adc_A_A
  /-- 90: SUB B (R253) -/
  | sub_B
  /-- 91: SUB C (R253) -/
  | sub_C
  /-- 92: SUB D (R253) -/
  | sub_D
  /-- 93: SUB E (R253) -/
  | sub_E
  /-- 94: SUB H (R253) -/
  | sub_H
  /-- 95: SUB L (R253) -/
  | sub_L
  /-- 96: SUB (HL) (R253) -/
  | sub_atHL
  /-- 97: SUB A (R253) -/
  | sub_A
  /-- 98: SBC A,B (R254) -/
  | sbc_A_B
  /-- 99: SBC A,C (R254) -/
  | sbc_A_C
  /-- 9A: SBC A,D (R254) -/
  | sbc_A_D
  /-- 9B: SBC A,E (R254) -/
  | sbc_A_E
  /-- 9C: SBC A,H (R254) -/
  | sbc_A_H
  /-- 9D: SBC A,L (R254) -/
  | sbc_A_L
  /-- 9E: SBC A,(HL) (R254) -/
  | sbc_A_atHL
  /-- 9F: SBC A,A (R254) -/
  | sbc_A_A
  /-- A0: AND B (R255) -/
  | and_B
  /-- A1: AND C (R255) -/
  | and_C
  /-- A2: AND D (R255) -/
  | and_D
  /-- A3: AND E (R255) -/
  | and_E
  /-- A4: AND H (R255) -/
  | and_H
  /-- A5: AND L (R255) -/
  | and_L
  /-- A6: AND (HL) (R255) -/
  | and_atHL
  /-- A7: AND A (R255) -/
  | and_A
  /-- A8: XOR B (R256) -/
  | xor_B
  /-- A9: XOR C (R256) -/
  | xor_C
  /-- AA: XOR D (R256) -/
  | xor_D
  /-- AB: XOR E (R256) -/
  | xor_E
  /-- AC: XOR H (R256) -/
  | xor_H
  /-- AD: XOR L (R256) -/
  | xor_L
  /-- AE: XOR (HL) (R256) -/
  | xor_atHL
  /-- AF: XOR A (R256) -/
  | xor_A
  /-- B0: OR B (R257) -/
  | or_B
  /-- B1: OR C (R257) -/
  | or_C
  /-- B2: OR D (R257) -/
  | or_D
  /-- B3: OR E (R257) -/
  | or_E
  /-- B4: OR H (R257) -/
  | or_H
  /-- B5: OR L (R257) -/
  | or_L
  /-- B6: OR (HL) (R257) -/
  | or_atHL
  /-- B7: OR A (R257) -/
  | or_A
  /-- B8: CP B (R258) -/
  | cp_B
  /-- B9: CP C (R258) -/
  | cp_C
  /-- BA: CP D (R258) -/
  | cp_D
  /-- BB: CP E (R258) -/
  | cp_E
  /-- BC: CP H (R258) -/
  | cp_H
  /-- BD: CP L (R258) -/
  | cp_L
  /-- BE: CP (HL) (R258) -/
  | cp_atHL
  /-- BF: CP A (R258) -/
  | cp_A
  /-- C0: RET NZ (R329) -/
  | ret_NZ
  /-- C1: POP BC (R235) -/
  | pop_BC
  /-- C2: JP NZ,a16 (R322) -/
  | jp_NZ_a16 (nn : Word)
  /-- C3: JP a16 (R321) -/
  | jp_a16 (nn : Word)
  /-- C4: CALL NZ,a16 (R327) -/
  | call_NZ_a16 (nn : Word)
  /-- C5: PUSH BC (R234) -/
  | push_BC
  /-- C6: ADD A,d8 (R251) -/
  | add_A_d8 (n : Byte)
  /-- C7: RST 00H (R331) -/
  | rst_00
  /-- C8: RET Z (R329) -/
  | ret_Z
  /-- C9: RET (R328) -/
  | ret
  /-- CA: JP Z,a16 (R322) -/
  | jp_Z_a16 (nn : Word)
  /-- CC: CALL Z,a16 (R327) -/
  | call_Z_a16 (nn : Word)
  /-- CD: CALL a16 (R326) -/
  | call_a16 (nn : Word)
  /-- CE: ADC A,d8 (R252) -/
  | adc_A_d8 (n : Byte)
  /-- CF: RST 08H (R331) -/
  | rst_08
  /-- D0: RET NC (R329) -/
  | ret_NC
  /-- D1: POP DE (R235) -/
  | pop_DE
  /-- D2: JP NC,a16 (R322) -/
  | jp_NC_a16 (nn : Word)
  /-- the bytes D3 DB DD E3 E4 EB EC ED F4 FC FD: no instruction (R357) -/
  | undefined (op : Byte)
  /-- D4: CALL NC,a16 (R327) -/
  | call_NC_a16 (nn : Word)
  /-- D5: PUSH DE (R234) -/
  | push_DE
  /-- D6: SUB d8 (R253) -/
  | sub_d8 (n : Byte)
  /-- D7: RST 10H (R331) -/
  | rst_10
  /-- D8: RET C (R329) -/
  | ret_C
  /-- D9: RETI (R330) -/
  | reti
  /-- DA: JP C,a16 (R322) -/
  | jp_C_a16 (nn : Word)
  /-- DC: CALL C,a16 (R327) -/
  | call_C_a16 (nn : Word)
  /-- DE: SBC A,d8 (R254) -/
  | sbc_A_d8 (n : Byte)
  /-- DF: RST 18H (R331) -/
  | rst_18
  /-- E0: LDH (a8),A (R212) -/
  | ldh_at_a8_A (n : Byte)
  /-- E1: POP HL (R235) -/
  | pop_HL
  /-- E2: LD (C),A (R214) -/
  | ld_atC_A
  /-- E5: PUSH HL (R234) -/
  | push_HL
  /-- E6: AND d8 (R255) -/
  | and_d8 (n : Byte)
  /-- E7: RST 20H (R331) -/
  | rst_20
  /-- E8: ADD SP,e8 (R281) -/
  | add_SP_e8 (e : Byte)
  /-- E9: JP (HL) (R323) -/
  | jp_atHL
  /-- EA: LD (a16),A (R210) -/
  | ld_at_a16_A (nn : Word)
  /-- EE: XOR d8 (R256) -/
  | xor_d8 (n : Byte)
  /-- EF: RST 28H (R331) -/
  | rst_28
  /-- F0: LDH A,(a8) (R211) -/
  | ldh_A_at_a8 (n : Byte)
  /-- F1: POP AF (R236) -/
  | pop_AF
  /-- F2: LD A,(C) (R213) -/
  | ld_A_atC
  /-- F3: DI (R354) -/
  | di
  /-- F5: PUSH AF (R234) -/
  | push_AF
  /-- F6: OR d8 (R257) -/
  | or_d8 (n : Byte)
  /-- F7: RST 30H (R331) -/
  | rst_30
  /-- F8: LD HL,SP+e8 (R233) -/
  | ld_HL_SP_e8 (e : Byte)
  /-- F9: LD SP,HL (R232) -/
  | ld_SP_HL
  /-- FA: LD A,(a16) (R209) -/
  | ld_A_at_a16 (nn : Word)
  /-- FB: EI (R355) -/
  | ei
  /-- FE: CP d8 (R258) -/
  | cp_d8 (n : Byte)
  /-- FF: RST 38H (R331) -/
  | rst_38
  /-- CB00: RLC B (R295) -/
  | rlc_B
  /-- CB01: RLC C (R295) -/
  | rlc_C
  /-- CB02: RLC D (R295) -/
  | rlc_D
  /-- CB03: RLC E (R295) -/
  | rlc_E
  /-- CB04: RLC H (R295) -/
  | rlc_H
  /-- CB05: RLC L (R295) -/
  | rlc_L
  /-- CB06: RLC (HL) (R295) -/
  | rlc_atHL
  /-- CB07: RLC A (R295) -/
  | rlc_A
  /-- CB08: RRC B (R296) -/
  | rrc_B
  /-- CB09: RRC C (R296) -/
  | rrc_C
  /-- CB0A: RRC D (R296) -/
  | rrc_D
  /-- CB0B: RRC E (R296) -/
  | rrc_E
  /-- CB0C: RRC H (R296) -/
  | rrc_H
  /-- CB0D: RRC L (R296) -/
  | rrc_L
  /-- CB0E: RRC (HL) (R296) -/
  | rrc_atHL
  /-- CB0F: RRC A (R296) -/
  | rrc_A
  /-- CB10: RL B (R297) -/
  | rl_B
  /-- CB11: RL C (R297) -/
  | rl_C
  /-- CB12: RL D (R297) -/
  | rl_D
  /-- CB13: RL E (R297) -/
  | rl_E
  /-- CB14: RL H (R297) -/
  | rl_H
  /-- CB15: RL L (R297) -/
  | rl_L
  /-- CB16: RL (HL) (R297) -/
  | rl_atHL
  /-- CB17: RL A (R297) -/
  | rl_A
  /-- CB18: RR B (R298) -/
  | rr_B
  /-- CB19: RR C (R298) -/
  | rr_C
  /-- CB1A: RR D (R298) -/
  | rr_D
  /-- CB1B: RR E (R298) -/
  | rr_E
  /-- CB1C: RR H (R298) -/
  | rr_H
  /-- CB1D: RR L (R298) -/
  | rr_L
  /-- CB1E: RR (HL) (R298) -/
  | rr_atHL
  /-- CB1F: RR A (R298) -/
  | rr_A
  /-- CB20: SLA B (R299) -/
  | sla_B
  /-- CB21: SLA C (R299) -/
  | sla_C
  /-- CB22: SLA D (R299) -/
  | sla_D
  /-- CB23: SLA E (R299) -/
  | sla_E
  /-- CB24: SLA H (R299) -/
  | sla_H
  /-- CB25: SLA L (R299) -/
  | sla_L
  /-- CB26: SLA (HL) (R299) -/
  | sla_atHL
  /-- CB27: SLA A (R299) -/
  | sla_A
  /-- CB28: SRA B (R300) -/
  | sra_B
  /-- CB29: SRA C (R300) -/
  | sra_C
  /-- CB2A: SRA D (R300) -/
  | sra_D
  /-- CB2B: SRA E (R300) -/
  | sra_E
  /-- CB2C: SRA H (R300) -/
  | sra_H
  /-- CB2D: SRA L (R300) -/
  | sra_L
  /-- CB2E: SRA (HL) (R300) -/
  | sra_atHL
  /-- CB2F: SRA A (R300) -/
  | sra_A
  /-- CB30: SWAP B (R301) -/
  | swap_B
  /-- CB31: SWAP C (R301) -/
  | swap_C
  /-- CB32: SWAP D (R301) -/
  | swap_D
  /-- CB33: SWAP E (R301) -/
  | swap_E
  /-- CB34: SWAP H (R301) -/
  | swap_H
  /-- CB35: SWAP L (R301) -/
  | swap_L
  /-- CB36: SWAP (HL) (R301) -/
  | swap_atHL
  /-- CB37: SWAP A (R301) -/
  | swap_A
  /-- CB38: SRL B (R302) -/
  | srl_B
  /-- CB39: SRL C (R302) -/
  | srl_C
  /-- CB3A: SRL D (R302) -/
  | srl_D
  /-- CB3B: SRL E (R302) -/
  | srl_E
  /-- CB3C: SRL H (R302) -/
  | srl_H
  /-- CB3D: SRL L (R302) -/
  | srl_L
  /-- CB3E: SRL (HL) (R302) -/
  | srl_atHL
  /-- CB3F: SRL A (R302) -/
  | srl_A
  /-- CB40: BIT 0,B (R303) -/
  | bit_0_B
  /-- CB41: BIT 0,C (R303) -/
  | bit_0_C
  /-- CB42: BIT 0,D (R303) -/
  | bit_0_D
  /-- CB43: BIT 0,E (R303) -/
  | bit_0_E
  /-- CB44: BIT 0,H (R303) -/
  | bit_0_H
  /-- CB45: BIT 0,L (R303) -/
  | bit_0_L
  /-- CB46: BIT 0,(HL) (R303) -/
  | bit_0_atHL
  /-- CB47: BIT 0,A (R303) -/
  | bit_0_A
  /-- CB48: BIT 1,B (R303) -/
  | bit_1_B
  /-- CB49: BIT 1,C (R303) -/
  | bit_1_C
  /-- CB4A: BIT 1,D (R303) -/
  | bit_1_D
  /-- CB4B: BIT 1,E (R303) -/
  | bit_1_E
  /-- CB4C: BIT 1,H (R303) -/
  | bit_1_H
  /-- CB4D: BIT 1,L (R303) -/
  | bit_1_L
  /-- CB4E: BIT 1,(HL) (R303) -/
  | bit_1_atHL
  /-- CB4F: BIT 1,A (R303) -/
  | bit_1_A
  /-- CB50: BIT 2,B (R303) -/
  | bit_2_B
  /-- CB51: BIT 2,C (R303) -/
  | bit_2_C
  /-- CB52: BIT 2,D (R303) -/
  | bit_2_D
  /-- CB53: BIT 2,E (R303) -/
  | bit_2_E
  /-- CB54: BIT 2,H (R303) -/
  | bit_2_H
  /-- CB55: BIT 2,L (R303) -/
  | bit_2_L
  /-- CB56: BIT 2,(HL) (R303) -/
  | bit_2_atHL
  /-- CB57: BIT 2,A (R303) -/
  | bit_2_A
  /-- CB58: BIT 3,B (R303) -/
  | bit_3_B
  /-- CB59: BIT 3,C (R303) -/
  | bit_3_C
  /-- CB5A: BIT 3,D (R303) -/
  | bit_3_D
  /-- CB5B: BIT 3,E (R303) -/
  | bit_3_E
  /-- CB5C: BIT 3,H (R303) -/
  | bit_3_H
  /-- CB5D: BIT 3,L (R303) -/
  | bit_3_L
  /-- CB5E: BIT 3,(HL) (R303) -/
  | bit_3_atHL
  /-- CB5F: BIT 3,A (R303) -/
  | bit_3_A
  /-- CB60: BIT 4,B (R303) -/
  | bit_4_B
  /-- CB61: BIT 4,C (R303) -/
  | bit_4_C
  /-- CB62: BIT 4,D (R303) -/
  | bit_4_D
  /-- CB63: BIT 4,E (R303) -/
  | bit_4_E
  /-- CB64: BIT 4,H (R303) -/
  | bit_4_H
  /-- CB65: BIT 4,L (R303) -/
  | bit_4_L
  /-- CB66: BIT 4,(HL) (R303) -/
  | bit_4_atHL
  /-- CB67: BIT 4,A (R303) -/
  | bit_4_A
  /-- CB68: BIT 5,B (R303) -/
  | bit_5_B
  /-- CB69: BIT 5,C (R303) -/
  | bit_5_C
  /-- CB6A: BIT 5,D (R303) -/
  | bit_5_D
  /-- CB6B: BIT 5,E (R303) -/
  | bit_5_E
  /-- CB6C: BIT 5,H (R303) -/
  | bit_5_H
  /-- CB6D: BIT 5,L (R303) -/
  | bit_5_L
  /-- CB6E: BIT 5,(HL) (R303) -/
  | bit_5_atHL
  /-- CB6F: BIT 5,A (R303) -/
  | bit_5_A
  /-- CB70: BIT 6,B (R303) -/
  | bit_6_B
  /-- CB71: BIT 6,C (R303) -/
  | bit_6_C
  /-- CB72: BIT 6,D (R303) -/
  | bit_6_D
  /-- CB73: BIT 6,E (R303) -/
  | bit_6_E
  /-- CB74: BIT 6,H (R303) -/
  | bit_6_H
  /-- CB75: BIT 6,L (R303) -/
  | bit_6_L
  /-- CB76: BIT 6,(HL) (R303) -/
  | bit_6_atHL
  /-- CB77: BIT 6,A (R303) -/
  | bit_6_A
  /-- CB78: BIT 7,B (R303) -/
  | bit_7_B
  /-- CB79: BIT 7,C (R303) -/
  | bit_7_C
  /-- CB7A: BIT 7,D (R303) -/
  | bit_7_D
  /-- CB7B: BIT 7,E (R303) -/
  | bit_7_E
  /-- CB7C: BIT 7,H (R303) -/
  | bit_7_H
  /-- CB7D: BIT 7,L (R303) -/
  | bit_7_L
  /-- CB7E: BIT 7,(HL) (R303) -/
  | bit_7_atHL
  /-- CB7F: BIT 7,A (R303) -/
  | bit_7_A
  /-- CB80: RES 0,B (R304) -/
  | res_0_B
  /-- CB81: RES 0,C (R304) -/
  | res_0_C
  /-- CB82: RES 0,D (R304) -/
  | res_0_D
  /-- CB83: RES 0,E (R304) -/
  | res_0_E
  /-- CB84: RES 0,H (R304) -/
  | res_0_H
  /-- CB85: RES 0,L (R304) -/
  | res_0_L
  /-- CB86: RES 0,(HL) (R304) -/
  | res_0_atHL
  /-- CB87: RES 0,A (R304) -/
  | res_0_A
  /-- CB88: RES 1,B (R304) -/
  | res_1_B
  /-- CB89: RES 1,C (R304) -/
  | res_1_C
  /-- CB8A: RES 1,D (R304) -/
  | res_1_D
  /-- CB8B: RES 1,E (R304) -/
  | res_1_E
  /-- CB8C: RES 1,H (R304) -/
  | res_1_H
  /-- CB8D: RES 1,L (R304) -/
  | res_1_L
  /-- CB8E: RES 1,(HL) (R304) -/
  | res_1_atHL
  /-- CB8F: RES 1,A (R304) -/
  | res_1_A
  /-- CB90: RES 2,B (R304) -/
  | res_2_B
  /-- CB91: RES 2,C (R304) -/
  | res_2_C
  /-- CB92: RES 2,D (R304) -/
  | res_2_D
  /-- CB93: RES 2,E (R304) -/
  | res_2_E
  /-- CB94: RES 2,H (R304) -/
  | res_2_H
  /-- CB95: RES 2,L (R304) -/
  | res_2_L
  /-- CB96: RES 2,(HL) (R304) -/
  | res_2_atHL
  /-- CB97: RES 2,A (R304) -/
  | res_2_A
  /-- CB98: RES 3,B (R304) -/
  | res_3_B
  /-- CB99: RES 3,C (R304) -/
  | res_3_C
  /-- CB9A: RES 3,D (R304) -/
  | res_3_D
  /-- CB9B: RES 3,E (R304) -/
  | res_3_E
  /-- CB9C: RES 3,H (R304) -/
  | res_3_H
  /-- CB9D: RES 3,L (R304) -/
  | res_3_L
  /-- CB9E: RES 3,(HL) (R304) -/
  | res_3_atHL
  /-- CB9F: RES 3,A (R304) -/
  | res_3_A
  /-- CBA0: RES 4,B (R304) -/
  | res_4_B
  /-- CBA1: RES 4,C (R304) -/
  | res_4_C
  /-- CBA2: RES 4,D (R304) -/
  | res_4_D
  /-- CBA3: RES 4,E (R304) -/
  | res_4_E
  /-- CBA4: RES 4,H (R304) -/
  | res_4_H
  /-- CBA5: RES 4,L (R304) -/
  | res_4_L
  /-- CBA6: RES 4,(HL) (R304) -/
  | res_4_atHL
  /-- CBA7: RES 4,A (R304) -/
  | res_4_A
  /-- CBA8: RES 5,B (R304) -/
  | res_5_B
  /-- CBA9: RES 5,C (R304) -/
  | res_5_C
  /-- CBAA: RES 5,D (R304) -/
  | res_5_D
  /-- CBAB: RES 5,E (R304) -/
  | res_5_E
  /-- CBAC: RES 5,H (R304) -/
  | res_5_H
  /-- CBAD: RES 5,L (R304) -/
  | res_5_L
  /-- CBAE: RES 5,(HL) (R304) -/
  | res_5_atHL
  /-- CBAF: RES 5,A (R304) -/
  | res_5_A
  /-- CBB0: RES 6,B (R304) -/
  | res_6_B
  /-- CBB1: RES 6,C (R304) -/
  | res_6_C
  /-- CBB2: RES 6,D (R304) -/
  | res_6_D
  /-- CBB3: RES 6,E (R304) -/
  | res_6_E
  /-- CBB4: RES 6,H (R304) -/
  | res_6_H
  /-- CBB5: RES 6,L (R304) -/
  | res_6_L
  /-- CBB6: RES 6,(HL) (R304) -/
  | res_6_atHL
  /-- CBB7: RES 6,A (R304) -/
  | res_6_A
  /-- CBB8: RES 7,B (R304) -/
  | res_7_B
  /-- CBB9: RES 7,C (R304) -/
  | res_7_C
  /-- CBBA: RES 7,D (R304) -/
  | res_7_D
  /-- CBBB: RES 7,E (R304) -/
  | res_7_E
  /-- CBBC: RES 7,H (R304) -/
  | res_7_H
  /-- CBBD: RES 7,L (R304) -/
  | res_7_L
  /-- CBBE: RES 7,(HL) (R304) -/
  | res_7_atHL
  /-- CBBF: RES 7,A (R304) -/
  | res_7_A
  /-- CBC0: SET 0,B (R305) -/
  | set_0_B
  /-- CBC1: SET 0,C (R305) -/
  | set_0_C
  /-- CBC2: SET 0,D (R305) -/
  | set_0_D
  /-- CBC3: SET 0,E (R305) -/
  | set_0_E
  /-- CBC4: SET 0,H (R305) -/
  | set_0_H
  /-- CBC5: SET 0,L (R305) -/
  | set_0_L
  /-- CBC6: SET 0,(HL) (R305) -/
  | set_0_atHL
  /-- CBC7: SET 0,A (R305) -/
  | set_0_A
  /-- CBC8: SET 1,B (R305) -/
  | set_1_B
  /-- CBC9: SET 1,C (R305) -/
  | set_1_C
  /-- CBCA: SET 1,D (R305) -/
  | set_1_D
  /-- CBCB: SET 1,E (R305) -/
  | set_1_E
  /-- CBCC: SET 1,H (R305) -/
  | set_1_H
  /-- CBCD: SET 1,L (R305) -/
  | set_1_L
  /-- CBCE: SET 1,(HL) (R305) -/
  | set_1_atHL
  /-- CBCF: SET 1,A (R305) -/
  | set_1_A
  /-- CBD0: SET 2,B (R305) -/
  | set_2_B
  /-- CBD1: SET 2,C (R305) -/
  | set_2_C
  /-- CBD2: SET 2,D (R305) -/
  | set_2_D
  /-- CBD3: SET 2,E (R305) -/
  | set_2_E
  /-- CBD4: SET 2,H (R305) -/
  | set_2_H
  /-- CBD5: SET 2,L (R305) -/
  | set_2_L
  /-- CBD6: SET 2,(HL) (R305) -/
  | set_2_atHL
  /-- CBD7: SET 2,A (R305) -/
  | set_2_A
  /-- CBD8: SET 3,B (R305) -/
  | set_3_B
  /-- CBD9: SET 3,C (R305) -/
  | set_3_C
  /-- CBDA: SET 3,D (R305) -/
  | set_3_D
  /-- CBDB: SET 3,E (R305) -/
  | set_3_E
  /-- CBDC: SET 3,H (R305) -/
  | set_3_H
  /-- CBDD: SET 3,L (R305) -/
  | set_3_L
  /-- CBDE: SET 3,(HL) (R305) -/
  | set_3_atHL
  /-- CBDF: SET 3,A (R305) -/
  | set_3_A
  /-- CBE0: SET 4,B (R305) -/
  | set_4_B
  /-- CBE1: SET 4,C (R305) -/
  | set_4_C
  /-- CBE2: SET 4,D (R305) -/
  | set_4_D
  /-- CBE3: SET 4,E (R305) -/
  | set_4_E
  /-- CBE4: SET 4,H (R305) -/
  | set_4_H
  /-- CBE5: SET 4,L (R305) -/
  | set_4_L
  /-- CBE6: SET 4,(HL) (R305) -/
  | set_4_atHL
  /-- CBE7: SET 4,A (R305) -/
  | set_4_A
  /-- CBE8: SET 5,B (R305) -/
  | set_5_B
  /-- CBE9: SET 5,C (R305) -/
  | set_5_C
  /-- CBEA: SET 5,D (R305) -/
  | set_5_D
  /-- CBEB: SET 5,E (R305) -/
  | set_5_E
  /-- CBEC: SET 5,H (R305) -/
  | set_5_H
  /-- CBED: SET 5,L (R305) -/
  | set_5_L
  /-- CBEE: SET 5,(HL) (R305) -/
  | set_5_atHL
  /-- CBEF: SET 5,A (R305) -/
  | set_5_A
  /-- CBF0: SET 6,B (R305) -/
  | set_6_B
  /-- CBF1: SET 6,C (R305) -/
  | set_6_C
  /-- CBF2: SET 6,D (R305) -/
  | set_6_D
  /-- CBF3: SET 6,E (R305) -/
  | set_6_E
  /-- CBF4: SET 6,H (R305) -/
  | set_6_H
  /-- CBF5: SET 6,L (R305) -/
  | set_6_L
  /-- CBF6: SET 6,(HL) (R305) -/
  | set_6_atHL
  /-- CBF7: SET 6,A (R305) -/
  | set_6_A
  /-- CBF8: SET 7,B (R305) -/
  | set_7_B
  /-- CBF9: SET 7,C (R305) -/
  | set_7_C
  /-- CBFA: SET 7,D (R305) -/
  | set_7_D
  /-- CBFB: SET 7,E (R305) -/
  | set_7_E
  /-- CBFC: SET 7,H (R305) -/
  | set_7_H
  /-- CBFD: SET 7,L (R305) -/
  | set_7_L
  /-- CBFE: SET 7,(HL) (R305) -/
  | set_7_atHL
  /-- CBFF: SET 7,A (R305) -/
  | set_7_A
deriving DecidableEq, Repr

end Sys2Proof
end

