-- ==== Sys2Proof/Machine/State.lean ====
section
/-! DEFINITION. The state of the core: every piece of state 10_state.md and 20_memory.md give it, one record with every
component as a field (R7), and the state after reset (R85, R600, R602). -/
namespace Sys2Proof.Machine

/-- The flag register F (R33): four flags; bits 3-0 of F are hardwired 0 and have no storage. -/
structure Flags where
  /-- bit 7, zero -/
  z : Bool := false
  /-- bit 6, subtract -/
  n : Bool := false
  /-- bit 5, half-carry -/
  h : Bool := false
  /-- bit 4, carry -/
  c : Bool := false
deriving DecidableEq, Repr

/-- The CPU registers (R30, R36, R37) and control state (R38). -/
structure Cpu where
  a : Byte := 0
  f : Flags := {}
  b : Byte := 0
  c : Byte := 0
  d : Byte := 0
  e : Byte := 0
  h : Byte := 0
  l : Byte := 0
  sp : Word := 0
  pc : Word := 0
  /-- `IME`, the interrupt-master-enable -/
  ime : Bool := false
  /-- `ime_delay`: EI executed, IME not yet set -/
  imeDelay : Bool := false
  /-- `halted`: HALT in effect -/
  halted : Bool := false
  /-- `halt_bug`: the next opcode fetch does not advance PC -/
  haltBug : Bool := false
  /-- `stopped`: the STOP low-power state -/
  stopped : Bool := false
deriving DecidableEq, Repr

/-- TimerState (R55-R57, R75). -/
structure Timer where
  /-- `div_counter` -/
  div : BitVec 16 := 0
  tima : Byte := 0
  tma : Byte := 0
  /-- TAC bits 2-0: enable, clock select -/
  tac : BitVec 3 := 0
deriving DecidableEq, Repr

/-- The interrupt controller (R58, R72). -/
structure Intr where
  /-- IF bits 4-0 -/
  req : BitVec 5 := 0
  /-- IE, all 8 bits stored -/
  ie : Byte := 0
deriving DecidableEq, Repr

/-- The PPU modes (R61, R76). -/
inductive PpuMode where
  /-- mode 0 -/
  | hBlank
  /-- mode 1 -/
  | vBlank
  /-- mode 2 -/
  | oamScan
  /-- mode 3 -/
  | pixelTransfer
deriving DecidableEq, Repr

/-- The PPU: its registers (R60-R68) and its hidden state (R76). -/
structure Ppu where
  lcdc : Byte := 0
  /-- STAT bits 6-3, the interrupt enables: LYC, mode 2, mode 1, mode 0 -/
  stat : BitVec 4 := 0
  scy : Byte := 0
  scx : Byte := 0
  lyc : Byte := 0
  /-- DMA, the last source page written -/
  dma : Byte := 0
  bgp : Byte := 0
  obp0 : Byte := 0
  obp1 : Byte := 0
  wy : Byte := 0
  wx : Byte := 0
  mode : PpuMode := .hBlank
  /-- the current scanline, 0..153 -/
  ly : Nat := 0
  /-- dots elapsed in the scanline, 0..455 -/
  dot : Nat := 0
  /-- the frame buffer: `fb[y][x]` at index `160 * y + x` -/
  fb : Store 2 := []
  /-- set on V-blank entry, cleared by the host -/
  frameReady : Bool := false
deriving DecidableEq, Repr

/-- The joypad: the select bits of P1 (R51) and the host's button masks (R79). -/
structure Joypad where
  /-- P1 bit 5: 0 selects the action group -/
  p15 : Bool := false
  /-- P1 bit 4: 0 selects the direction group -/
  p14 : Bool := false
  /-- direction buttons held: bit 0 Right, 1 Left, 2 Up, 3 Down -/
  dirs : BitVec 4 := 0
  /-- action buttons held: bit 0 A, 1 B, 2 Select, 3 Start -/
  acts : BitVec 4 := 0
deriving DecidableEq, Repr

/-- The serial registers, inert storage (R52, R53). -/
structure Serial where
  sb : Byte := 0
  sc : Byte := 0
deriving DecidableEq, Repr

/-- MBC1 bank registers (R77). -/
structure Mbc1 where
  ramEnable : Bool := false
  /-- ROM bank register -/
  bank1 : BitVec 5 := 1
  /-- RAM bank / upper ROM bank register -/
  bank2 : BitVec 2 := 0
  /-- banking mode -/
  mode : Bool := false
deriving DecidableEq, Repr

/-- MBC3 bank registers (R77). -/
structure Mbc3 where
  ramEnable : Bool := false
  romBank : BitVec 7 := 1
  /-- RAM bank or RTC register select -/
  ramSel : Byte := 0
deriving DecidableEq, Repr

/-- BankState (R77): "a tagged variant ... dispatched once at cartridge-load time" (R120). The tag is `CART_KIND`. -/
inductive BankState where
  /-- a cartridge without a controller -/
  | none
  | mbc1 (m : Mbc1)
  | mbc3 (m : Mbc3)
deriving DecidableEq, Repr

/-- `status` of R38: whether the run has ended, and how (R406, R442). The step that ends a run answers the state R440 or
R352 leaves; the steps after it stop (DEDUCED, log entry 7). -/
inductive Status where
  | running
  /-- `FAULT(UndefinedOpcode, op, addr)` of R440 -/
  | faulted (op : Byte) (addr : Word)
  /-- `REFUSED(StopRefused, addr, second byte)` of R352 -/
  | refused (addr : Word) (second : Byte)
deriving DecidableEq, Repr

/-- Why a step stops with a fault. -/
inductive Fault where
  /-- Raised by `step` in a state whose run has ended by an undefined opcode: `op` was fetched at `addr` (R440, R406:
  once status is not RUNNING no step is enabled). Safe: the model stops where the run has ended. -/
  | undefinedOpcode (op : Byte) (addr : Word)
deriving DecidableEq, Repr

/-- Why a step is refused. -/
inductive Refusal where
  /-- Raised by an arm of `exec` whose instruction has no meaning yet. Safe: the model stops. -/
  | notModelled (mnemonic : String)
  /-- Raised by `step` in a state whose run has ended by a STOP under `STOP_MODE = REFUSE`: the 0x10 byte stood at `addr`,
  `second` is the byte after it (R352, R406). Safe: the model stops where the run has ended. -/
  | stopRefused (addr : Word) (second : Byte)
deriving DecidableEq, Repr

structure State where
  cpu : Cpu := {}
  timer : Timer := {}
  intr : Intr := {}
  ppu : Ppu := {}
  joy : Joypad := {}
  serial : Serial := {}
  bank : BankState := .none
  /-- `boot_rom_enabled` (R78) -/
  bootRomEnabled : Bool := true
  /-- `VRAM[0..8191]` -/
  vram : Memory := []
  /-- `WRAM[0..8191]` -/
  wram : Memory := []
  /-- `OAM[0..159]` -/
  oam : Memory := []
  /-- `HRAM[0..126]` -/
  hram : Memory := []
  /-- `XRAM[0..RAM_SIZE-1]`, cartridge RAM -/
  xram : Memory := []
  /-- the inert bytes of the I/O page (R59, R71), indexed by the low byte of their address -/
  io : Memory := []
  status : Status := .running
  /-- `total_cycles` (R39) -/
  totalCycles : Nat := 0
  /-- `cycles` of R12: the master cycles the last CPU step returned. The MODEL's own field: an instruction sets it, `step`
  advances Timer and PPU by it. Its reset value 0 is a DESIGN CHOICE (log entry 8). -/
  stepCycles : Nat := 0
  /-- the parameters of R8, fixed for a run -/
  cfg : Config := {}
deriving DecidableEq, Repr

/-- `INIT_DRAW` of R8: the arbitrary initial contents of the CPU registers and RAM arrays (R85). -/
structure InitDraw where
  a : Byte := 0
  f : Flags := {}
  b : Byte := 0
  c : Byte := 0
  d : Byte := 0
  e : Byte := 0
  h : Byte := 0
  l : Byte := 0
  sp : Word := 0
  vram : Memory := []
  wram : Memory := []
  oam : Memory := []
  hram : Memory := []
  xram : Memory := []
deriving DecidableEq, Repr

/-- BankState at reset for a controller kind (R77). -/
def BankState.initial : CartKind → BankState
  | .none => .none
  | .mbc1 => .mbc1 {}
  | .mbc3 => .mbc3 {}

/-- Steps 2 and 3 of the reset procedure R600: every piece of state at its reset value (R51-R79, R85), the drawn ones
from `w`. -/
def State.resetBoot (cfg : Config) (kind : CartKind) (w : InitDraw) : State :=
  { cpu := { a := w.a, f := w.f, b := w.b, c := w.c, d := w.d, e := w.e, h := w.h, l := w.l, sp := w.sp },
    bank := BankState.initial kind,
    vram := w.vram, wram := w.wram, oam := w.oam, hram := w.hram, xram := w.xram,
    cfg := cfg }

/-- Step 4 of R600: the values of R602 replace those of step 3. -/
def State.skipBoot (s : State) : State :=
  { s with
    cpu := { a := 0x01, f := ⟨true, false, true, true⟩, b := 0x00, c := 0x13, d := 0x00, e := 0xD8, h := 0x01, l := 0x4D,
             sp := 0xFFFE, pc := 0x0100 },
    timer := { s.timer with div := 0 },
    ppu := { s.ppu with lcdc := 0x91, bgp := 0xFC, ly := 0, dot := 0, mode := .oamScan },
    bootRomEnabled := false }

/-- The state after reset for any parameters, controller kind and draw (R600). -/
def State.resetWith (cfg : Config) (kind : CartKind) (w : InitDraw) : State :=
  if cfg.skipBoot then (State.resetBoot cfg kind w).skipBoot else State.resetBoot cfg kind w

/-- The state right after reset, at the default parameters of R8 and the all-zero draw (DESIGN CHOICE, log entries 1 to 3). -/
def State.reset : State := State.resetWith {} .none {}

end Sys2Proof.Machine
end

