-- ==== Sys2Proof/Machine/Operands.lean ====
section
/-! DEFINITION. Register names and their accessors: 8-bit registers, register pairs, the flag register as a byte, the
conditions (00_scope.md R10, 10_state.md R30, R31, R33, 30_encoding.md R174 to R177). -/
namespace Sys2Proof.Machine

/-- The table `r8[n]` of R174 in its order; `atHL` is the memory byte at address HL. -/
inductive R8 where
  | b
  | c
  | d
  | e
  | h
  | l
  | atHL
  | a
deriving DecidableEq, Repr

/-- The register pairs of R175 and R176, and the pair view AF of R31. -/
inductive Pair where
  | bc
  | de
  | hl
  | sp
  | af
deriving DecidableEq, Repr

/-- The conditions of R177. -/
inductive Cond where
  | nz
  | z
  | nc
  | c
deriving DecidableEq, Repr

/-- F as a byte (R33): Z, N, H, C in bits 7 to 4, the low four bits 0. -/
def Flags.toByte (f : Flags) : Byte :=
  BitVec.ofBool f.z ++ BitVec.ofBool f.n ++ BitVec.ofBool f.h ++ BitVec.ofBool f.c ++ 0#4

/-- A write of F (R33): stores `v & 0xF0`. -/
def Flags.ofByte (v : Byte) : Flags :=
  { z := v.getLsbD 7, n := v.getLsbD 6, h := v.getLsbD 5, c := v.getLsbD 4 }

/-- Reads a pair: high register, then low register (R31). -/
def getPair (c : Cpu) : Pair → Word
  | .bc => mk16 c.b c.c
  | .de => mk16 c.d c.e
  | .hl => mk16 c.h c.l
  | .sp => c.sp
  | .af => mk16 c.a c.f.toByte

/-- Writes a pair: the high byte to its first register, the low byte to its second (R31); the low nibble of F is
dropped (R33). -/
def setPair (c : Cpu) (p : Pair) (v : Word) : Cpu :=
  match p with
  | .bc => { c with b := hiByte v, c := loByte v }
  | .de => { c with d := hiByte v, e := loByte v }
  | .hl => { c with h := hiByte v, l := loByte v }
  | .sp => { c with sp := v }
  | .af => { c with a := hiByte v, f := Flags.ofByte (loByte v) }

/-- `cond(k)` of R320 on the flags. -/
def Cond.holds (k : Cond) (f : Flags) : Bool :=
  match k with
  | .nz => !f.z
  | .z => f.z
  | .nc => !f.c
  | .c => f.c

/-- The pair `p` of the CPU of a state. -/
def pair (s : State) (p : Pair) : Word := getPair s.cpu p

/-- Writes the pair `p`. -/
def withPair (s : State) (p : Pair) (v : Word) : State := { s with cpu := setPair s.cpu p v }

/-- Writes all four flags. -/
def withFlags (s : State) (f : Flags) : State := { s with cpu := { s.cpu with f := f } }

/-- Writes A. -/
def withA (s : State) (v : Byte) : State := { s with cpu := { s.cpu with a := v } }

/-- Writes PC (R12). -/
def withPc (s : State) (v : Word) : State := { s with cpu := { s.cpu with pc := v } }

/-- Writes SP. -/
def withSp (s : State) (v : Word) : State := { s with cpu := { s.cpu with sp := v } }

end Sys2Proof.Machine
end

