-- ==== Sys2Proof/Machine/Timer.lean ====
section
/-! DEFINITION. Interrupt requests (60_exceptions.md R420, R421) and the timer (R460 to R462). -/
namespace Sys2Proof.Machine

/-- Runs `f` `n` times. -/
def iter (f : State → State) : Nat → State → State
  | 0, s => s
  | n + 1, s => iter f n (f s)

/-- `request(k)` of R420: sets IF bit `k`. -/
def request (k : Nat) (s : State) : State :=
  { s with intr := { s.intr with req := s.intr.req ||| (1#5 <<< k) } }

/-- IE & IF & 0x1F: the requests that are enabled (R80, R421). -/
def pending (s : State) : BitVec 5 := s.intr.req &&& s.intr.ie.setWidth 5

/-- The lowest `k` in 0..4 with bit `k` set: the highest priority (R421, R422). -/
def lowestBit (p : BitVec 5) : Option Nat :=
  if p.getLsbD 0 then some 0
  else if p.getLsbD 1 then some 1
  else if p.getLsbD 2 then some 2
  else if p.getLsbD 3 then some 3
  else if p.getLsbD 4 then some 4
  else none

/-- The vector of interrupt `k` (R421, R422): `0x0040 + 8 * k`. -/
def vectorOf (k : Nat) : Word := BitVec.ofNat 16 (0x40 + 8 * k)

/-- `pending_vector()` of R421: the interrupt to dispatch and its vector. -/
def pendingVector (s : State) : Option (Nat × Word) :=
  (lowestBit (pending s)).map fun k => (k, vectorOf k)

/-- `sel_bit` of R461: the divider bit that a clock select takes. -/
def selBit (sel : BitVec 2) : Nat :=
  if sel = 0 then 9 else if sel = 1 then 3 else if sel = 2 then 5 else 7

/-- `timer_input()` of R461. -/
def timerInput (t : Timer) : Bool :=
  t.tac.getLsbD 2 && t.div.getLsbD (selBit (t.tac.setWidth 2))

/-- `tima_increment()` of R461: on overflow the reload and the request come at once (C7). -/
def timaIncrement (s : State) : State :=
  if s.timer.tima = 0xFF then request 2 { s with timer := { s.timer with tima := s.timer.tma } }
  else { s with timer := { s.timer with tima := s.timer.tima + 1 } }

/-- Changes the divider or TAC under the edge rule (R461, R462): TIMA is incremented when the timer input falls. -/
def timerEdge (t : Timer) (s : State) : State :=
  let s' := { s with timer := t }
  if timerInput s.timer && !timerInput t then timaIncrement s' else s'

/-- `timer_tick()` of R461: one master cycle. -/
def timerTick (s : State) : State := timerEdge { s.timer with div := s.timer.div + 1 } s

/-- `timer_advance(n)` of R460. -/
def timerAdvance (n : Nat) (s : State) : State := iter timerTick n s

/-- A write to DIV, and the DIV reset of STOP (R54, R353, R462). -/
def resetDiv (s : State) : State := timerEdge { s.timer with div := 0 } s

/-- A write to TAC (R57, R462). -/
def writeTac (v : Byte) (s : State) : State := timerEdge { s.timer with tac := v.setWidth 3 } s

end Sys2Proof.Machine
end

