-- ==== Sys2Proof/Machine/Joypad.lean ====
section
/-! DEFINITION. The joypad register (10_state.md R51) and its interrupt (60_exceptions.md R485). -/
namespace Sys2Proof.Machine

/-- `low` of R51: the four input lines, 0 = a button of a selected group is pressed. -/
def p1Low (j : Joypad) : BitVec 4 :=
  ~~~((if j.p14 then 0 else j.dirs) ||| (if j.p15 then 0 else j.acts))

/-- The read value of P1 (R51). -/
def p1Read (j : Joypad) : Byte :=
  0b11#2 ++ BitVec.ofBool j.p15 ++ BitVec.ofBool j.p14 ++ p1Low j

/-- Replaces the joypad state and requests the Joypad interrupt when an input line falls (R485). -/
def joypadChange (j : Joypad) (s : State) : State :=
  let s' := { s with joy := j }
  if p1Low s.joy &&& ~~~(p1Low j) = 0 then s' else request 4 s'

/-- A CPU write to P1: stores the select bits `v[5:4]` (R51). -/
def writeP1 (v : Byte) (s : State) : State :=
  joypadChange { s.joy with p15 := v.getLsbD 5, p14 := v.getLsbD 4 } s

/-- The host's button write between two steps (R491); it is no CPU store and leaves the select bits. `step` never calls it
(DESIGN CHOICE, log entry 11). -/
def hostSetButtons (dirs acts : BitVec 4) (s : State) : State :=
  joypadChange { s.joy with dirs := dirs, acts := acts } s

/-- The host's acknowledgement of a frame (R494). -/
def hostAckFrame (s : State) : State := { s with ppu := { s.ppu with frameReady := false } }

/-- The pixel `fb[y][x]` that the host reads between two steps (R492). -/
def hostPixel (s : State) (x y : Nat) : BitVec 2 := Store.read s.ppu.fb (160 * y + x)

end Sys2Proof.Machine
end

