-- ==== Sys2Proof/Machine/Ppu.lean ====
section
/-! DEFINITION. The PPU: the mode, scanline and dot state machine with its interrupt requests (60_exceptions.md R470 to
R476), the background rasterizer (R480, R481) and the LCD switch (R473). -/
namespace Sys2Proof.Machine

/-- The mode as STAT bits 1-0 show it (R61). -/
def PpuMode.bits : PpuMode → BitVec 2
  | .hBlank => 0
  | .vBlank => 1
  | .oamScan => 2
  | .pixelTransfer => 3

/-- LCDC bit 7: the LCD is on (R60). -/
def lcdOn (p : Ppu) : Bool := p.lcdc.getLsbD 7

/-- The offset in VRAM of the background map byte for plane position (`bx`, `by`) (R481). -/
def mapOffset (p : Ppu) (bx py : Nat) : Nat :=
  (if p.lcdc.getLsbD 3 then 0x1C00 else 0x1800) + (py / 8) * 32 + bx / 8

/-- The offset in VRAM of the first byte of tile `idx`: unsigned from 0x8000 or signed around 0x9000 (R481). -/
def tileOffset (p : Ppu) (idx : Byte) : Nat :=
  if p.lcdc.getLsbD 4 then idx.toNat * 16 else ((0x1000 : Int) + idx.toInt * 16).toNat

/-- `shade(c)` of R66. -/
def shade (bgp : Byte) (c : Nat) : BitVec 2 := (bgp >>> (2 * c)).setWidth 2

/-- The shade of column `x` of scanline `y` (R481). -/
def bgShade (p : Ppu) (vram : Memory) (x y : Nat) : BitVec 2 :=
  if p.lcdc.getLsbD 0 then
    let bx := (p.scx.toNat + x) % 256
    let py := (p.scy.toNat + y) % 256
    let idx := Store.read vram (mapOffset p bx py)
    let row := tileOffset p idx + (py % 8) * 2
    let lo := Store.read vram row
    let hi := Store.read vram (row + 1)
    let b := 7 - bx % 8
    shade p.bgp (bitNat (hi.getLsbD b) * 2 + bitNat (lo.getLsbD b))
  else 0

/-- Writes columns `x` to `x + n - 1` of row `y`. -/
def renderColumns (p : Ppu) (vram : Memory) (y : Nat) : Nat → Nat → Store 2 → Store 2
  | 0, _, fb => fb
  | n + 1, x, fb => renderColumns p vram y n (x + 1) (Store.write fb (160 * y + x) (bgShade p vram x y))

/-- `render_line(y)` of R481: the 160 columns of row `y`, no other row (R480). -/
def renderLine (y : Nat) (s : State) : State :=
  { s with ppu := { s.ppu with fb := renderColumns s.ppu s.vram y 160 0 s.ppu.fb } }

/-- Whether entering a mode requests LCD-STAT: the STAT enable bits 3, 4, 5 are bits 0, 1, 2 of the stored field (R472). -/
def modeRequests (stat : BitVec 4) : PpuMode → Bool
  | .hBlank => stat.getLsbD 0
  | .vBlank => stat.getLsbD 1
  | .oamScan => stat.getLsbD 2
  | .pixelTransfer => false

/-- `enter_mode(m)` of R472. -/
def enterMode (m : PpuMode) (s : State) : State :=
  let s' := { s with ppu := { s.ppu with mode := m } }
  if modeRequests s.ppu.stat m then request 1 s' else s'

/-- LY = LYC, as STAT bit 2 reads it (R61). -/
def lyEqLyc (p : Ppu) : Bool := p.ly == p.lyc.toNat

/-- `lyc_check()` of R475: STAT bit 6 is bit 3 of the stored field. -/
def lycCheck (s : State) : State :=
  if lyEqLyc s.ppu && s.ppu.stat.getLsbD 3 then request 1 s else s

/-- The end of a scanline: the last branch of `ppu_tick` (R471), with V-blank entry (R476). -/
def nextLine (s : State) : State :=
  let ly := (s.ppu.ly + 1) % 154
  let s1 := lycCheck { s with ppu := { s.ppu with dot := 0, ly := ly } }
  if ly < 144 then enterMode .oamScan s1
  else if ly = 144 then
    let s2 := request 0 (enterMode .vBlank s1)
    { s2 with ppu := { s2.ppu with frameReady := true } }
  else s1

/-- `ppu_tick()` of R471: one dot. -/
def ppuTick (s : State) : State :=
  if lcdOn s.ppu then
    let s1 := { s with ppu := { s.ppu with dot := s.ppu.dot + 1 } }
    if s1.ppu.ly < 144 ∧ s1.ppu.dot = 80 then renderLine s1.ppu.ly (enterMode .pixelTransfer s1)
    else if s1.ppu.ly < 144 ∧ s1.ppu.dot = 252 then enterMode .hBlank s1
    else if s1.ppu.dot = 456 then nextLine s1
    else s1
  else s

/-- `ppu_advance(n)` of R470. -/
def ppuAdvance (n : Nat) (s : State) : State := iter ppuTick n s

/-- A write to LCDC (R473): switching the LCD off or on restarts the scanline state machine and requests nothing. -/
def writeLcdc (v : Byte) (s : State) : State :=
  let p := { s.ppu with lcdc := v }
  match lcdOn s.ppu, v.getLsbD 7 with
  | true, false => { s with ppu := { p with ly := 0, dot := 0, mode := .hBlank } }
  | false, true => { s with ppu := { p with ly := 0, dot := 0, mode := .oamScan } }
  | _, _ => { s with ppu := p }

end Sys2Proof.Machine
end

