-- ==== Sys2Proof/Machine/Bus.lean ====
section
/-! DEFINITION. The Bus: the address decoder (20_memory.md R110 to R116), the bank controllers (R120 to R131) and the
I/O registers (10_state.md R50 to R72). `locate` decodes an address once for reads and writes alike. -/
namespace Sys2Proof.Machine

/-- The registers of the I/O page (R50); `inert k` is the plain storage byte at FF00 + k (R59, R71). -/
inductive IoReg where
  | p1
  | sb
  | sc
  | div
  | tima
  | tma
  | tac
  | irq
  | lcdc
  | stat
  | scy
  | scx
  | ly
  | lyc
  | dma
  | bgp
  | obp0
  | obp1
  | wy
  | wx
  | boot
  | inert (k : Nat)
deriving DecidableEq, Repr

/-- What an address is decoded to (R110, R111, R121). -/
inductive Target where
  /-- 0000-7FFF: reads boot ROM or cartridge ROM, writes bank control -/
  | cart (n : Nat)
  | vram (i : Nat)
  /-- a byte of cartridge RAM -/
  | xram (i : Nat)
  /-- A000-BFFF with the RAM disabled or absent -/
  | xramOff
  /-- A000-BFFF with an MBC3 RTC register selected -/
  | rtc
  | wram (i : Nat)
  | oam (i : Nat)
  /-- FEA0-FEFF -/
  | unusable
  | io (r : IoReg)
  | hram (i : Nat)
  /-- FFFF -/
  | ie
deriving DecidableEq, Repr

/-- The register map of the I/O page (R50), by the low byte of the address. -/
def ioReg (k : Nat) : IoReg :=
  match k with
  | 0x00 => .p1
  | 0x01 => .sb
  | 0x02 => .sc
  | 0x04 => .div
  | 0x05 => .tima
  | 0x06 => .tma
  | 0x07 => .tac
  | 0x0F => .irq
  | 0x40 => .lcdc
  | 0x41 => .stat
  | 0x42 => .scy
  | 0x43 => .scx
  | 0x44 => .ly
  | 0x45 => .lyc
  | 0x46 => .dma
  | 0x47 => .bgp
  | 0x48 => .obp0
  | 0x49 => .obp1
  | 0x4A => .wy
  | 0x4B => .wx
  | 0x50 => .boot
  | k => .inert k

/-- `ram_off(bank, a)` of R121, for an offset `o = a - 0xA000` in the window. -/
def ramOff (c : Config) (bank o : Nat) : Nat := ((bank % c.ramBanks) * 0x2000 + o) % c.ramSize

/-- What offset `o` of the window A000-BFFF is decoded to, per controller (R124, R127, R130). -/
def xramTarget (s : State) (o : Nat) : Target :=
  match s.bank with
  | .none => if s.cfg.ramSize = 0 then .xramOff else .xram (ramOff s.cfg 0 o)
  | .mbc1 m =>
    if !m.ramEnable || s.cfg.ramSize = 0 then .xramOff
    else .xram (ramOff s.cfg (if m.mode then m.bank2.toNat else 0) o)
  | .mbc3 m =>
    if !m.ramEnable then .xramOff
    else if 0x08 ≤ m.ramSel.toNat ∧ m.ramSel.toNat ≤ 0x0C then .rtc
    else if s.cfg.ramSize = 0 then .xramOff
    else .xram (ramOff s.cfg m.ramSel.toNat o)

/-- The address decoder of R110 and R111, on the address as a number below 65536. -/
def locateNat (s : State) (n : Nat) : Target :=
  if n ≤ 0x7FFF then .cart n
  else if n ≤ 0x9FFF then .vram (n - 0x8000)
  else if n ≤ 0xBFFF then xramTarget s (n - 0xA000)
  else if n ≤ 0xDFFF then .wram (n - 0xC000)
  else if n ≤ 0xFDFF then .wram (n - 0xE000)
  else if n ≤ 0xFE9F then .oam (n - 0xFE00)
  else if n ≤ 0xFEFF then .unusable
  else if n ≤ 0xFF7F then .io (ioReg (n - 0xFF00))
  else if n ≤ 0xFFFE then .hram (n - 0xFF80)
  else .ie

/-- The address decoder. -/
def locate (s : State) (a : Word) : Target := locateNat s a.toNat

/-- Byte `o` of ROM bank `bank`, the bank number reduced modulo the bank count (R120). With parameters that no load accepts
the count can be 0 (log entry 14). -/
def romByte (c : Config) (bank o : Nat) : Byte := Store.read c.rom ((bank % c.romBanks) * 0x4000 + o)

/-- The bank seen at 0000-3FFF (R122, R126, R129). -/
def lowBank : BankState → Nat
  | .none => 0
  | .mbc1 m => if m.mode then m.bank2.toNat <<< 5 else 0
  | .mbc3 _ => 0

/-- The bank seen at 4000-7FFF, before it is reduced modulo the bank count: the alias of 0 to 1 comes first (R122, R126,
R129, C3). -/
def highBank : BankState → Nat
  | .none => 1
  | .mbc1 m => (m.bank2.toNat <<< 5) ||| (if m.bank1 = 0 then 1 else m.bank1.toNat)
  | .mbc3 m => if m.romBank = 0 then 1 else m.romBank.toNat

/-- `cart_read(a)` for 0000-7FFF (R121, R122, R126, R129). -/
def cartRead (s : State) (n : Nat) : Byte :=
  if n ≤ 0x3FFF then romByte s.cfg (lowBank s.bank) n else romByte s.cfg (highBank s.bank) (n - 0x4000)

/-- A read of 0000-7FFF: the boot overlay over the cartridge (R110, R116). -/
def romRead (s : State) (n : Nat) : Byte :=
  if n ≤ 0x00FF ∧ s.bootRomEnabled then Store.read s.cfg.bootRom n else cartRead s n

/-- The read value of an I/O register (R115; R51 to R71). -/
def ioRead (s : State) : IoReg → Byte
  | .p1 => p1Read s.joy
  | .sb => s.serial.sb
  | .sc => s.serial.sc
  | .div => hiByte s.timer.div
  | .tima => s.timer.tima
  | .tma => s.timer.tma
  | .tac => 0b11111#5 ++ s.timer.tac
  | .irq => 0b111#3 ++ s.intr.req
  | .lcdc => s.ppu.lcdc
  | .stat => 1#1 ++ s.ppu.stat ++ BitVec.ofBool (lyEqLyc s.ppu) ++ s.ppu.mode.bits
  | .scy => s.ppu.scy
  | .scx => s.ppu.scx
  | .ly => BitVec.ofNat 8 s.ppu.ly
  | .lyc => s.ppu.lyc
  | .dma => s.ppu.dma
  | .bgp => s.ppu.bgp
  | .obp0 => s.ppu.obp0
  | .obp1 => s.ppu.obp1
  | .wy => s.ppu.wy
  | .wx => s.ppu.wx
  | .boot => 0xFF
  | .inert k => Store.read s.io k

/-- Reads what an address is decoded to. -/
def readTarget (s : State) : Target → Byte
  | .cart n => romRead s n
  | .vram i => Store.read s.vram i
  | .xram i => Store.read s.xram i
  | .xramOff => s.cfg.disabledRamRead
  | .rtc => s.cfg.rtcRead
  | .wram i => Store.read s.wram i
  | .oam i => Store.read s.oam i
  | .unusable => s.cfg.unusableRead
  | .io r => ioRead s r
  | .hram i => Store.read s.hram i
  | .ie => s.intr.ie

/-- `MemRead(a, 1)` of R110. No read changes state (R106). -/
def memRead (s : State) (a : Word) : Byte := readTarget s (locate s a)

/-- Copies bytes `i` to `i + n - 1` of source page `page` to OAM (R65). -/
def dmaCopy (page : Byte) : Nat → Nat → State → State
  | 0, _, s => s
  | n + 1, i, s =>
    dmaCopy page n (i + 1) { s with oam := Store.write s.oam i (memRead s (mk16 page (BitVec.ofNat 8 i))) }

/-- A write to DMA: stores the page and copies 160 bytes at once (R65). -/
def writeDma (v : Byte) (s : State) : State := dmaCopy v 160 0 { s with ppu := { s.ppu with dma := v } }

/-- The write of an I/O register (R115; R51 to R71). -/
def ioWrite (s : State) (r : IoReg) (v : Byte) : State :=
  match r with
  | .p1 => writeP1 v s
  | .sb => { s with serial := { s.serial with sb := v } }
  | .sc => { s with serial := { s.serial with sc := v } }
  | .div => resetDiv s
  | .tima => { s with timer := { s.timer with tima := v } }
  | .tma => { s with timer := { s.timer with tma := v } }
  | .tac => writeTac v s
  | .irq => { s with intr := { s.intr with req := v.setWidth 5 } }
  | .lcdc => writeLcdc v s
  | .stat => { s with ppu := { s.ppu with stat := v.extractLsb' 3 4 } }
  | .scy => { s with ppu := { s.ppu with scy := v } }
  | .scx => { s with ppu := { s.ppu with scx := v } }
  | .ly => s
  | .lyc => { s with ppu := { s.ppu with lyc := v } }
  | .dma => writeDma v s
  | .bgp => { s with ppu := { s.ppu with bgp := v } }
  | .obp0 => { s with ppu := { s.ppu with obp0 := v } }
  | .obp1 => { s with ppu := { s.ppu with obp1 := v } }
  | .wy => { s with ppu := { s.ppu with wy := v } }
  | .wx => { s with ppu := { s.ppu with wx := v } }
  | .boot => { s with bootRomEnabled := false }
  | .inert k => { s with io := Store.write s.io k v }

/-- The RAM-enable pattern: low nibble 0x0A (R125, R128). -/
def ramEnablePattern (v : Byte) : Bool := v &&& 0x0F = 0x0A

/-- `cart_write(a, v)` for 0000-7FFF: bank control, never ROM contents (R111, R123, R125, R128). -/
def cartWrite (b : BankState) (n : Nat) (v : Byte) : BankState :=
  match b with
  | .none => .none
  | .mbc1 m =>
    if n ≤ 0x1FFF then .mbc1 { m with ramEnable := ramEnablePattern v }
    else if n ≤ 0x3FFF then .mbc1 { m with bank1 := v.setWidth 5 }
    else if n ≤ 0x5FFF then .mbc1 { m with bank2 := v.setWidth 2 }
    else .mbc1 { m with mode := v.getLsbD 0 }
  | .mbc3 m =>
    if n ≤ 0x1FFF then .mbc3 { m with ramEnable := ramEnablePattern v }
    else if n ≤ 0x3FFF then .mbc3 { m with romBank := v.setWidth 7 }
    else if n ≤ 0x5FFF then .mbc3 { m with ramSel := v }
    else .mbc3 m

/-- Writes what an address is decoded to. -/
def writeTarget (s : State) (t : Target) (v : Byte) : State :=
  match t with
  | .cart n => { s with bank := cartWrite s.bank n v }
  | .vram i => { s with vram := Store.write s.vram i v }
  | .xram i => { s with xram := Store.write s.xram i v }
  | .xramOff => s
  | .rtc => s
  | .wram i => { s with wram := Store.write s.wram i v }
  | .oam i => { s with oam := Store.write s.oam i v }
  | .unusable => s
  | .io r => ioWrite s r v
  | .hram i => { s with hram := Store.write s.hram i v }
  | .ie => { s with intr := { s.intr with ie := v } }

/-- `MemWrite(a, 1, v)` of R111. -/
def memWrite (s : State) (a : Word) (v : Byte) : State := writeTarget s (locate s a) v

end Sys2Proof.Machine
end

