-- ==== Sys2Proof/Machine/Ops.lean ====
section
/-! DEFINITION. The shared operations of the instructions: moving past an instruction's bytes, the `r8` operands, the
stack, ending a run, taking an interrupt and returning from one (00_scope.md R10 to R12, 60_exceptions.md R403, R430,
R440). Every meaning takes the state BEFORE its opcode is fetched and moves past its bytes itself. -/
namespace Sys2Proof.Machine

/-- The answer of a meaning. -/
abbrev Answer := Host.Outcome State Fault Refusal

/-- The fetch of an instruction of `len` bytes as the registers see it (R36, R170, R403): PC past the bytes; after a HALT
that set `halt_bug` the opcode fetch does not advance PC and clears the bit. -/
def advance (len : Nat) (s : State) : State :=
  { s with cpu := { s.cpu with
      pc := s.cpu.pc + BitVec.ofNat 16 (if s.cpu.haltBug then len - 1 else len), haltBug := false } }

/-- `cycles <- n` of R12. -/
def withCycles (n : Nat) (s : State) : State := { s with stepCycles := n }

/-- Ends a meaning that completed: its cycles and its state. -/
def done (cycles : Nat) (s : State) : Answer := .next (withCycles cycles s)

/-- Reads `r8[n]` (R10, R174): a register, or the memory byte at HL. -/
def rd8 (s : State) : R8 → Byte
  | .b => s.cpu.b
  | .c => s.cpu.c
  | .d => s.cpu.d
  | .e => s.cpu.e
  | .h => s.cpu.h
  | .l => s.cpu.l
  | .atHL => memRead s (pair s .hl)
  | .a => s.cpu.a

/-- Writes `r8[n]` (R10, R174). -/
def wr8 (s : State) (r : R8) (v : Byte) : State :=
  match r with
  | .b => { s with cpu := { s.cpu with b := v } }
  | .c => { s with cpu := { s.cpu with c := v } }
  | .d => { s with cpu := { s.cpu with d := v } }
  | .e => { s with cpu := { s.cpu with e := v } }
  | .h => { s with cpu := { s.cpu with h := v } }
  | .l => { s with cpu := { s.cpu with l := v } }
  | .atHL => memWrite s (pair s .hl) v
  | .a => withA s v

/-- `push16(v)` of R11: the high byte at SP - 1 first, then the low byte at SP - 2. -/
def push16 (v : Word) (s : State) : State :=
  let s1 := withSp s (s.cpu.sp - 1)
  let s2 := memWrite s1 s1.cpu.sp (hiByte v)
  let s3 := withSp s2 (s2.cpu.sp - 1)
  memWrite s3 s3.cpu.sp (loByte v)

/-- The value `pop16()` of R11 returns: the low byte at SP, the high byte at SP + 1. -/
def popValue (s : State) : Word := mk16 (memRead s (s.cpu.sp + 1)) (memRead s s.cpu.sp)

/-- The state `pop16()` of R11 leaves: SP raised by 2. -/
def popped (s : State) : State := withSp s (s.cpu.sp + 2)

/-- `raise UndefinedOpcode(op, PC)` of R440: the run ends, PC stays at the byte, nothing else changes. -/
def raiseUndefined (op : Byte) (s : State) : State := { s with status := .faulted op s.cpu.pc }

/-- `refuse StopRefused(PC, second)` of R352: the run ends, nothing else changes. -/
def refuseStop (second : Byte) (s : State) : State := { s with status := .refused s.cpu.pc second }

/-- The address a dispatch saves (R430): PC, or the address of the HALT when `halt_bug` is set (D39). -/
def dispatchReturn (s : State) : Word := if s.cpu.haltBug then s.cpu.pc - 1 else s.cpu.pc

/-- Clears IF bit `k` (R430). -/
def clearRequest (k : Nat) (s : State) : State :=
  { s with intr := { s.intr with req := s.intr.req &&& ~~~(1#5 <<< k) } }

/-- `dispatch()` of R430 for interrupt `k` with vector `vec`, both chosen before anything is written (D40). 20 cycles (R431). -/
def dispatch (k : Nat) (vec : Word) (s : State) : State :=
  let s1 := push16 (dispatchReturn s) s
  let s2 := { s1 with cpu := { s1.cpu with ime := false, imeDelay := false, haltBug := false, pc := vec } }
  withCycles 20 (clearRequest k s2)

/-- The return of RETI (R330): PC popped, IME set at once; nothing else is restored (R433). -/
def returnFromInterrupt (s : State) : State :=
  let t := popped s
  { t with cpu := { t.cpu with pc := popValue s, ime := true } }

end Sys2Proof.Machine
end

