-- ==== Sys2Proof/Machine/Cycle.lean ====
section
/-! DEFINITION. The parts of the CPU step and of the orchestrator step around an instruction (60_exceptions.md R400 to
R406): the stopped and halted checks, the interrupt check, the EI delay and the advance of the devices. -/
namespace Sys2Proof.Machine

/-- The CPU stays in the STOP low-power state: no line of P1 is low (R402, R353). -/
def staysStopped (s : State) : Bool := s.cpu.stopped && p1Low s.joy == 0xF

/-- The end of the STOP state (R402). -/
def unstop (s : State) : State := { s with cpu := { s.cpu with stopped := false } }

/-- The wake condition of HALT under `HALT_WAKE` (R402, C1). -/
def wakes (s : State) : Bool :=
  match s.cfg.haltWake with
  | .enabledRequest => pending s != 0
  | .anyRequest => s.intr.req != 0

/-- The CPU stays halted (R402). -/
def staysHalted (s : State) : Bool := s.cpu.halted && !wakes s

/-- The end of the halted state (R402). -/
def unhalt (s : State) : State := { s with cpu := { s.cpu with halted := false } }

/-- The interrupt that a CPU step dispatches instead of fetching, with its vector (R402). -/
def interruptTaken (s : State) : Option (Nat × Word) := if s.cpu.ime then pendingVector s else none

/-- The delayed effect of EI at the end of a step that began with `ime_delay = enableAfter`, unless DI or a dispatch
cancelled it in the step (R402). -/
def settleIme (enableAfter : Bool) (s : State) : State :=
  if enableAfter && s.cpu.imeDelay then { s with cpu := { s.cpu with ime := true, imeDelay := false } } else s

/-- The devices after a CPU step of `stepCycles` cycles: Timer, then PPU, then the total (R400, R405). -/
def advanceDevices (s : State) : State :=
  let n := s.stepCycles
  let t := ppuAdvance n (timerAdvance n s)
  { t with totalCycles := t.totalCycles + n }

/-- The rest of a step after the meaning of an instruction has answered: where the run has ended nothing advances
(R400, R406); otherwise the EI delay settles and the devices advance. -/
def finishStep (enableAfter : Bool) : Answer → Answer
  | .next t => match t.status with
    | .running => .next (advanceDevices (settleIme enableAfter t))
    | _ => .next t
  | .fault r => .fault r
  | .refused r => .refused r

end Sys2Proof.Machine
end

