-- ==== Sys2Proof/Machine/Flags.lean ====
section
/-! DEFINITION. The arithmetic of the instructions and the flags they compute (43_alu_8bit.md, 44_alu_16bit.md,
45_rotate_shift_bit.md). Sums are taken on naturals and narrowed at the end, as the rules write them. -/
namespace Sys2Proof.Machine

/-- ADD A,s (R251): the result and the flags. -/
def add8 (a s : Byte) : Byte × Flags :=
  let r := BitVec.ofNat 8 (a.toNat + s.toNat)
  (r, { z := r == 0, n := false, h := decide (a.toNat % 16 + s.toNat % 16 > 0x0F),
        c := decide (a.toNat + s.toNat > 0xFF) })

/-- ADC A,s (R252). -/
def adc8 (a s : Byte) (cin : Bool) : Byte × Flags :=
  let k := bitNat cin
  let r := BitVec.ofNat 8 (a.toNat + s.toNat + k)
  (r, { z := r == 0, n := false, h := decide (a.toNat % 16 + s.toNat % 16 + k > 0x0F),
        c := decide (a.toNat + s.toNat + k > 0xFF) })

/-- SUB s (R253). -/
def sub8 (a s : Byte) : Byte × Flags :=
  let r := BitVec.ofInt 8 ((a.toNat : Int) - s.toNat)
  (r, { z := r == 0, n := true, h := decide (a.toNat % 16 < s.toNat % 16), c := decide (a.toNat < s.toNat) })

/-- SBC A,s (R254). -/
def sbc8 (a s : Byte) (cin : Bool) : Byte × Flags :=
  let k := bitNat cin
  let r := BitVec.ofInt 8 ((a.toNat : Int) - s.toNat - k)
  (r, { z := r == 0, n := true, h := decide (a.toNat % 16 < s.toNat % 16 + k),
        c := decide (a.toNat < s.toNat + k) })

/-- AND s (R255). -/
def and8 (a s : Byte) : Byte × Flags :=
  (a &&& s, { z := a &&& s == 0, n := false, h := true, c := false })

/-- XOR s (R256). -/
def xor8 (a s : Byte) : Byte × Flags :=
  (a ^^^ s, { z := a ^^^ s == 0, n := false, h := false, c := false })

/-- OR s (R257). -/
def or8 (a s : Byte) : Byte × Flags :=
  (a ||| s, { z := a ||| s == 0, n := false, h := false, c := false })

/-- CP s (R258): the flags of SUB, A not written. -/
def cp8 (a s : Byte) : Byte × Flags := (a, (sub8 a s).2)

/-- INC r, INC (HL) (R259, R260): C unchanged. -/
def inc8 (f : Flags) (old : Byte) : Byte × Flags :=
  let r := old + 1
  (r, { f with z := r == 0, n := false, h := decide (old.toNat % 16 = 0x0F) })

/-- DEC r, DEC (HL) (R261, R262): C unchanged. -/
def dec8 (f : Flags) (old : Byte) : Byte × Flags :=
  let r := old - 1
  (r, { f with z := r == 0, n := true, h := decide (old.toNat % 16 = 0x00) })

/-- DAA (R263). -/
def daa8 (f : Flags) (a : Byte) : Byte × Flags :=
  if f.n then
    let a1 := if f.c then a - 0x60 else a
    let a2 := if f.h then a1 - 0x06 else a1
    (a2, { f with z := a2 == 0, h := false })
  else
    let carry := f.c || decide (a.toNat > 0x99)
    let a1 := if carry then a + 0x60 else a
    let a2 := if f.h || decide (a1.toNat % 16 > 0x09) then a1 + 0x06 else a1
    (a2, { f with z := a2 == 0, h := false, c := carry })

/-- ADD HL,rr (R280): Z unchanged. -/
def add16 (f : Flags) (x y : Word) : Word × Flags :=
  (BitVec.ofNat 16 (x.toNat + y.toNat),
   { f with n := false, h := decide (x.toNat % 0x1000 + y.toNat % 0x1000 > 0x0FFF),
            c := decide (x.toNat + y.toNat > 0xFFFF) })

/-- SP + e8 of ADD SP,e8 and LD HL,SP+e8 (R233, R281): H and C from the unsigned sum of the low bytes. -/
def addSp (sp : Word) (e : Byte) : Word × Flags :=
  (sp + sext16 e,
   { z := false, n := false, h := decide (sp.toNat % 16 + e.toNat % 16 > 0x0F),
     c := decide (sp.toNat % 256 + e.toNat > 0xFF) })

/-- The flags of a CB rotate or shift with result `w` and bit `c` shifted out (R295 to R302). -/
def rotFlags (w : Byte) (c : Bool) : Flags := { z := w == 0, n := false, h := false, c := c }

/-- RLC (R295). -/
def rlc8 (v : Byte) : Byte × Flags :=
  let w := (v <<< 1) ||| bitByte (v.getLsbD 7)
  (w, rotFlags w (v.getLsbD 7))

/-- RRC (R296). -/
def rrc8 (v : Byte) : Byte × Flags :=
  let w := (v >>> 1) ||| (bitByte (v.getLsbD 0) <<< 7)
  (w, rotFlags w (v.getLsbD 0))

/-- RL (R297). -/
def rl8 (v : Byte) (cin : Bool) : Byte × Flags :=
  let w := (v <<< 1) ||| bitByte cin
  (w, rotFlags w (v.getLsbD 7))

/-- RR (R298). -/
def rr8 (v : Byte) (cin : Bool) : Byte × Flags :=
  let w := (v >>> 1) ||| (bitByte cin <<< 7)
  (w, rotFlags w (v.getLsbD 0))

/-- SLA (R299). -/
def sla8 (v : Byte) : Byte × Flags :=
  let w := v <<< 1
  (w, rotFlags w (v.getLsbD 7))

/-- SRA (R300). -/
def sra8 (v : Byte) : Byte × Flags :=
  let w := (v >>> 1) ||| (v &&& 0x80)
  (w, rotFlags w (v.getLsbD 0))

/-- SWAP (R301). -/
def swap8 (v : Byte) : Byte × Flags :=
  let w := (v <<< 4) ||| (v >>> 4)
  (w, rotFlags w false)

/-- SRL (R302). -/
def srl8 (v : Byte) : Byte × Flags :=
  let w := v >>> 1
  (w, rotFlags w (v.getLsbD 0))

/-- The accumulator rotates clear Z whatever the result (R290 to R293). -/
def clearZ (r : Byte × Flags) : Byte × Flags := (r.1, { r.2 with z := false })

/-- The flags of BIT b (R303): C unchanged. -/
def bitFlags (f : Flags) (b : Nat) (v : Byte) : Flags := { f with z := !v.getLsbD b, n := false, h := true }

/-- RES b (R304). -/
def resBit (b : Nat) (v : Byte) : Byte := v &&& ~~~(1#8 <<< b)

/-- SET b (R305). -/
def setBit (b : Nat) (v : Byte) : Byte := v ||| (1#8 <<< b)

end Sys2Proof.Machine
end

