-- ==== Sys2Proof/Machine/Alu16.lean ====
section
/-! DEFINITION. The 16-bit arithmetic (44_alu_16bit.md). None raises an exception. -/
namespace Sys2Proof.Machine

/-- ADD HL,rr (R280), 8 cycles: the operand is read before HL is written. -/
def addHL (p : Pair) (s : State) : Answer :=
  let r := add16 s.cpu.f (pair s .hl) (pair s p)
  done 8 (withFlags (withPair (advance 1 s) .hl r.1) r.2)

/-- INC rr and DEC rr (R282, R283), 8 cycles, no flag. -/
def stepPair (k : Word) (p : Pair) (s : State) : Answer :=
  done 8 (withPair (advance 1 s) p (pair s p + k))

/-- 03: INC BC (R282). -/
def exec_inc_BC (s : State) : Answer := stepPair 1 .bc s

/-- 09: ADD HL,BC (R280). -/
def exec_add_HL_BC (s : State) : Answer := addHL .bc s

/-- 0B: DEC BC (R283). -/
def exec_dec_BC (s : State) : Answer := stepPair (-1) .bc s

/-- 13: INC DE (R282). -/
def exec_inc_DE (s : State) : Answer := stepPair 1 .de s

/-- 19: ADD HL,DE (R280). -/
def exec_add_HL_DE (s : State) : Answer := addHL .de s

/-- 1B: DEC DE (R283). -/
def exec_dec_DE (s : State) : Answer := stepPair (-1) .de s

/-- 23: INC HL (R282). -/
def exec_inc_HL (s : State) : Answer := stepPair 1 .hl s

/-- 29: ADD HL,HL (R280). -/
def exec_add_HL_HL (s : State) : Answer := addHL .hl s

/-- 2B: DEC HL (R283). -/
def exec_dec_HL (s : State) : Answer := stepPair (-1) .hl s

/-- 33: INC SP (R282). -/
def exec_inc_SP (s : State) : Answer := stepPair 1 .sp s

/-- 39: ADD HL,SP (R280). -/
def exec_add_HL_SP (s : State) : Answer := addHL .sp s

/-- 3B: DEC SP (R283). -/
def exec_dec_SP (s : State) : Answer := stepPair (-1) .sp s

/-- E8: ADD SP,e8 (R281). -/
def exec_add_SP_e8 (e : Byte) (s : State) : Answer :=
  let r := addSp s.cpu.sp e
  done 16 (withFlags (withSp (advance 2 s) r.1) r.2)

end Sys2Proof.Machine
end

