-- ==== Sys2Proof/Machine/Alu8.lean ====
section
/-! DEFINITION. The 8-bit arithmetic and logic (43_alu_8bit.md). None raises an exception. -/
namespace Sys2Proof.Machine

/-- The cycles of the register and memory forms (R250). -/
def accCycles (r : R8) : Nat := if r = .atHL then 8 else 4

/-- The register and memory forms of R250: the operand is read before A is written. -/
def accReg (op : Byte → Byte → Byte × Flags) (r : R8) (s : State) : Answer :=
  let t := advance 1 s
  let x := op t.cpu.a (rd8 t r)
  done (accCycles r) (withFlags (withA t x.1) x.2)

/-- The immediate form of R250, 8 cycles. -/
def accImm (op : Byte → Byte → Byte × Flags) (n : Byte) (s : State) : Answer :=
  let t := advance 2 s
  let x := op t.cpu.a n
  done 8 (withFlags (withA t x.1) x.2)

/-- The cycles of INC and DEC (R259 to R262). -/
def stepCyclesOf (r : R8) : Nat := if r = .atHL then 12 else 4

/-- INC and DEC of `r8[y]` (R259 to R262): read, then write, then the flags. -/
def stepReg (op : Flags → Byte → Byte × Flags) (r : R8) (s : State) : Answer :=
  let t := advance 1 s
  let x := op t.cpu.f (rd8 t r)
  done (stepCyclesOf r) (withFlags (wr8 t r x.1) x.2)

/-- 04: INC B (R259). -/
def exec_inc_B (s : State) : Answer := stepReg inc8 .b s

/-- 05: DEC B (R261). -/
def exec_dec_B (s : State) : Answer := stepReg dec8 .b s

/-- 0C: INC C (R259). -/
def exec_inc_C (s : State) : Answer := stepReg inc8 .c s

/-- 0D: DEC C (R261). -/
def exec_dec_C (s : State) : Answer := stepReg dec8 .c s

/-- 14: INC D (R259). -/
def exec_inc_D (s : State) : Answer := stepReg inc8 .d s

/-- 15: DEC D (R261). -/
def exec_dec_D (s : State) : Answer := stepReg dec8 .d s

/-- 1C: INC E (R259). -/
def exec_inc_E (s : State) : Answer := stepReg inc8 .e s

/-- 1D: DEC E (R261). -/
def exec_dec_E (s : State) : Answer := stepReg dec8 .e s

/-- 24: INC H (R259). -/
def exec_inc_H (s : State) : Answer := stepReg inc8 .h s

/-- 25: DEC H (R261). -/
def exec_dec_H (s : State) : Answer := stepReg dec8 .h s

/-- 27: DAA (R263). -/
def exec_daa (s : State) : Answer :=
  let r := daa8 s.cpu.f s.cpu.a
  done 4 (withFlags (withA (advance 1 s) r.1) r.2)

/-- 2C: INC L (R259). -/
def exec_inc_L (s : State) : Answer := stepReg inc8 .l s

/-- 2D: DEC L (R261). -/
def exec_dec_L (s : State) : Answer := stepReg dec8 .l s

/-- 2F: CPL (R264). -/
def exec_cpl (s : State) : Answer :=
  done 4 (withFlags (withA (advance 1 s) (~~~s.cpu.a)) { s.cpu.f with n := true, h := true })

/-- 34: INC (HL) (R260). -/
def exec_inc_atHL (s : State) : Answer := stepReg inc8 .atHL s

/-- 35: DEC (HL) (R262). -/
def exec_dec_atHL (s : State) : Answer := stepReg dec8 .atHL s

/-- 37: SCF (R265). -/
def exec_scf (s : State) : Answer :=
  done 4 (withFlags (advance 1 s) { s.cpu.f with n := false, h := false, c := true })

/-- 3C: INC A (R259). -/
def exec_inc_A (s : State) : Answer := stepReg inc8 .a s

/-- 3D: DEC A (R261). -/
def exec_dec_A (s : State) : Answer := stepReg dec8 .a s

/-- 3F: CCF (R266). -/
def exec_ccf (s : State) : Answer :=
  done 4 (withFlags (advance 1 s) { s.cpu.f with n := false, h := false, c := !s.cpu.f.c })

/-- 80: ADD A,B (R251). -/
def exec_add_A_B (s : State) : Answer := accReg add8 .b s

/-- 81: ADD A,C (R251). -/
def exec_add_A_C (s : State) : Answer := accReg add8 .c s

/-- 82: ADD A,D (R251). -/
def exec_add_A_D (s : State) : Answer := accReg add8 .d s

/-- 83: ADD A,E (R251). -/
def exec_add_A_E (s : State) : Answer := accReg add8 .e s

/-- 84: ADD A,H (R251). -/
def exec_add_A_H (s : State) : Answer := accReg add8 .h s

/-- 85: ADD A,L (R251). -/
def exec_add_A_L (s : State) : Answer := accReg add8 .l s

/-- 86: ADD A,(HL) (R251). -/
def exec_add_A_atHL (s : State) : Answer := accReg add8 .atHL s

/-- 87: ADD A,A (R251). -/
def exec_add_A_A (s : State) : Answer := accReg add8 .a s

/-- 88: ADC A,B (R252). -/
def exec_adc_A_B (s : State) : Answer := accReg (fun a v => adc8 a v s.cpu.f.c) .b s

/-- 89: ADC A,C (R252). -/
def exec_adc_A_C (s : State) : Answer := accReg (fun a v => adc8 a v s.cpu.f.c) .c s

/-- 8A: ADC A,D (R252). -/
def exec_adc_A_D (s : State) : Answer := accReg (fun a v => adc8 a v s.cpu.f.c) .d s

/-- 8B: ADC A,E (R252). -/
def exec_adc_A_E (s : State) : Answer := accReg (fun a v => adc8 a v s.cpu.f.c) .e s

/-- 8C: ADC A,H (R252). -/
def exec_adc_A_H (s : State) : Answer := accReg (fun a v => adc8 a v s.cpu.f.c) .h s

/-- 8D: ADC A,L (R252). -/
def exec_adc_A_L (s : State) : Answer := accReg (fun a v => adc8 a v s.cpu.f.c) .l s

/-- 8E: ADC A,(HL) (R252). -/
def exec_adc_A_atHL (s : State) : Answer := accReg (fun a v => adc8 a v s.cpu.f.c) .atHL s

/-- 8F: ADC A,A (R252). -/
def exec_adc_A_A (s : State) : Answer := accReg (fun a v => adc8 a v s.cpu.f.c) .a s

/-- 90: SUB B (R253). -/
def exec_sub_B (s : State) : Answer := accReg sub8 .b s

/-- 91: SUB C (R253). -/
def exec_sub_C (s : State) : Answer := accReg sub8 .c s

/-- 92: SUB D (R253). -/
def exec_sub_D (s : State) : Answer := accReg sub8 .d s

/-- 93: SUB E (R253). -/
def exec_sub_E (s : State) : Answer := accReg sub8 .e s

/-- 94: SUB H (R253). -/
def exec_sub_H (s : State) : Answer := accReg sub8 .h s

/-- 95: SUB L (R253). -/
def exec_sub_L (s : State) : Answer := accReg sub8 .l s

/-- 96: SUB (HL) (R253). -/
def exec_sub_atHL (s : State) : Answer := accReg sub8 .atHL s

/-- 97: SUB A (R253). -/
def exec_sub_A (s : State) : Answer := accReg sub8 .a s

/-- 98: SBC A,B (R254). -/
def exec_sbc_A_B (s : State) : Answer := accReg (fun a v => sbc8 a v s.cpu.f.c) .b s

/-- 99: SBC A,C (R254). -/
def exec_sbc_A_C (s : State) : Answer := accReg (fun a v => sbc8 a v s.cpu.f.c) .c s

/-- 9A: SBC A,D (R254). -/
def exec_sbc_A_D (s : State) : Answer := accReg (fun a v => sbc8 a v s.cpu.f.c) .d s

/-- 9B: SBC A,E (R254). -/
def exec_sbc_A_E (s : State) : Answer := accReg (fun a v => sbc8 a v s.cpu.f.c) .e s

/-- 9C: SBC A,H (R254). -/
def exec_sbc_A_H (s : State) : Answer := accReg (fun a v => sbc8 a v s.cpu.f.c) .h s

/-- 9D: SBC A,L (R254). -/
def exec_sbc_A_L (s : State) : Answer := accReg (fun a v => sbc8 a v s.cpu.f.c) .l s

/-- 9E: SBC A,(HL) (R254). -/
def exec_sbc_A_atHL (s : State) : Answer := accReg (fun a v => sbc8 a v s.cpu.f.c) .atHL s

/-- 9F: SBC A,A (R254). -/
def exec_sbc_A_A (s : State) : Answer := accReg (fun a v => sbc8 a v s.cpu.f.c) .a s

/-- A0: AND B (R255). -/
def exec_and_B (s : State) : Answer := accReg and8 .b s

/-- A1: AND C (R255). -/
def exec_and_C (s : State) : Answer := accReg and8 .c s

/-- A2: AND D (R255). -/
def exec_and_D (s : State) : Answer := accReg and8 .d s

/-- A3: AND E (R255). -/
def exec_and_E (s : State) : Answer := accReg and8 .e s

/-- A4: AND H (R255). -/
def exec_and_H (s : State) : Answer := accReg and8 .h s

/-- A5: AND L (R255). -/
def exec_and_L (s : State) : Answer := accReg and8 .l s

/-- A6: AND (HL) (R255). -/
def exec_and_atHL (s : State) : Answer := accReg and8 .atHL s

/-- A7: AND A (R255). -/
def exec_and_A (s : State) : Answer := accReg and8 .a s

/-- A8: XOR B (R256). -/
def exec_xor_B (s : State) : Answer := accReg xor8 .b s

/-- A9: XOR C (R256). -/
def exec_xor_C (s : State) : Answer := accReg xor8 .c s

/-- AA: XOR D (R256). -/
def exec_xor_D (s : State) : Answer := accReg xor8 .d s

/-- AB: XOR E (R256). -/
def exec_xor_E (s : State) : Answer := accReg xor8 .e s

/-- AC: XOR H (R256). -/
def exec_xor_H (s : State) : Answer := accReg xor8 .h s

/-- AD: XOR L (R256). -/
def exec_xor_L (s : State) : Answer := accReg xor8 .l s

/-- AE: XOR (HL) (R256). -/
def exec_xor_atHL (s : State) : Answer := accReg xor8 .atHL s

/-- AF: XOR A (R256). -/
def exec_xor_A (s : State) : Answer := accReg xor8 .a s

/-- B0: OR B (R257). -/
def exec_or_B (s : State) : Answer := accReg or8 .b s

/-- B1: OR C (R257). -/
def exec_or_C (s : State) : Answer := accReg or8 .c s

/-- B2: OR D (R257). -/
def exec_or_D (s : State) : Answer := accReg or8 .d s

/-- B3: OR E (R257). -/
def exec_or_E (s : State) : Answer := accReg or8 .e s

/-- B4: OR H (R257). -/
def exec_or_H (s : State) : Answer := accReg or8 .h s

/-- B5: OR L (R257). -/
def exec_or_L (s : State) : Answer := accReg or8 .l s

/-- B6: OR (HL) (R257). -/
def exec_or_atHL (s : State) : Answer := accReg or8 .atHL s

/-- B7: OR A (R257). -/
def exec_or_A (s : State) : Answer := accReg or8 .a s

/-- B8: CP B (R258). -/
def exec_cp_B (s : State) : Answer := accReg cp8 .b s

/-- B9: CP C (R258). -/
def exec_cp_C (s : State) : Answer := accReg cp8 .c s

/-- BA: CP D (R258). -/
def exec_cp_D (s : State) : Answer := accReg cp8 .d s

/-- BB: CP E (R258). -/
def exec_cp_E (s : State) : Answer := accReg cp8 .e s

/-- BC: CP H (R258). -/
def exec_cp_H (s : State) : Answer := accReg cp8 .h s

/-- BD: CP L (R258). -/
def exec_cp_L (s : State) : Answer := accReg cp8 .l s

/-- BE: CP (HL) (R258). -/
def exec_cp_atHL (s : State) : Answer := accReg cp8 .atHL s

/-- BF: CP A (R258). -/
def exec_cp_A (s : State) : Answer := accReg cp8 .a s

/-- C6: ADD A,d8 (R251). -/
def exec_add_A_d8 (n : Byte) (s : State) : Answer := accImm add8 n s

/-- CE: ADC A,d8 (R252). -/
def exec_adc_A_d8 (n : Byte) (s : State) : Answer := accImm (fun a v => adc8 a v s.cpu.f.c) n s

/-- D6: SUB d8 (R253). -/
def exec_sub_d8 (n : Byte) (s : State) : Answer := accImm sub8 n s

/-- DE: SBC A,d8 (R254). -/
def exec_sbc_A_d8 (n : Byte) (s : State) : Answer := accImm (fun a v => sbc8 a v s.cpu.f.c) n s

/-- E6: AND d8 (R255). -/
def exec_and_d8 (n : Byte) (s : State) : Answer := accImm and8 n s

/-- EE: XOR d8 (R256). -/
def exec_xor_d8 (n : Byte) (s : State) : Answer := accImm xor8 n s

/-- F6: OR d8 (R257). -/
def exec_or_d8 (n : Byte) (s : State) : Answer := accImm or8 n s

/-- FE: CP d8 (R258). -/
def exec_cp_d8 (n : Byte) (s : State) : Answer := accImm cp8 n s

end Sys2Proof.Machine
end

