-- ==== Sys2Proof/Machine/BitOps.lean ====
section
/-! DEFINITION. BIT, RES and SET (45_rotate_shift_bit.md R303 to R305). -/
namespace Sys2Proof.Machine

/-- BIT b,s (R303): nothing is written but the flags; 8 cycles, 12 for (HL). -/
def cbBit (b : Nat) (r : R8) (s : State) : Answer :=
  let t := advance 2 s
  done (if r = .atHL then 12 else 8) (withFlags t (bitFlags t.cpu.f b (rd8 t r)))

/-- RES b,s and SET b,s (R304, R305): read, then write; no flag; 8 cycles, 16 for (HL). -/
def cbWrite (op : Byte → Byte) (r : R8) (s : State) : Answer :=
  let t := advance 2 s
  done (if r = .atHL then 16 else 8) (wr8 t r (op (rd8 t r)))

/-- CB40: BIT 0,B (R303). -/
def exec_bit_0_B (s : State) : Answer := cbBit 0 .b s

/-- CB41: BIT 0,C (R303). -/
def exec_bit_0_C (s : State) : Answer := cbBit 0 .c s

/-- CB42: BIT 0,D (R303). -/
def exec_bit_0_D (s : State) : Answer := cbBit 0 .d s

/-- CB43: BIT 0,E (R303). -/
def exec_bit_0_E (s : State) : Answer := cbBit 0 .e s

/-- CB44: BIT 0,H (R303). -/
def exec_bit_0_H (s : State) : Answer := cbBit 0 .h s

/-- CB45: BIT 0,L (R303). -/
def exec_bit_0_L (s : State) : Answer := cbBit 0 .l s

/-- CB46: BIT 0,(HL) (R303). -/
def exec_bit_0_atHL (s : State) : Answer := cbBit 0 .atHL s

/-- CB47: BIT 0,A (R303). -/
def exec_bit_0_A (s : State) : Answer := cbBit 0 .a s

/-- CB48: BIT 1,B (R303). -/
def exec_bit_1_B (s : State) : Answer := cbBit 1 .b s

/-- CB49: BIT 1,C (R303). -/
def exec_bit_1_C (s : State) : Answer := cbBit 1 .c s

/-- CB4A: BIT 1,D (R303). -/
def exec_bit_1_D (s : State) : Answer := cbBit 1 .d s

/-- CB4B: BIT 1,E (R303). -/
def exec_bit_1_E (s : State) : Answer := cbBit 1 .e s

/-- CB4C: BIT 1,H (R303). -/
def exec_bit_1_H (s : State) : Answer := cbBit 1 .h s

/-- CB4D: BIT 1,L (R303). -/
def exec_bit_1_L (s : State) : Answer := cbBit 1 .l s

/-- CB4E: BIT 1,(HL) (R303). -/
def exec_bit_1_atHL (s : State) : Answer := cbBit 1 .atHL s

/-- CB4F: BIT 1,A (R303). -/
def exec_bit_1_A (s : State) : Answer := cbBit 1 .a s

/-- CB50: BIT 2,B (R303). -/
def exec_bit_2_B (s : State) : Answer := cbBit 2 .b s

/-- CB51: BIT 2,C (R303). -/
def exec_bit_2_C (s : State) : Answer := cbBit 2 .c s

/-- CB52: BIT 2,D (R303). -/
def exec_bit_2_D (s : State) : Answer := cbBit 2 .d s

/-- CB53: BIT 2,E (R303). -/
def exec_bit_2_E (s : State) : Answer := cbBit 2 .e s

/-- CB54: BIT 2,H (R303). -/
def exec_bit_2_H (s : State) : Answer := cbBit 2 .h s

/-- CB55: BIT 2,L (R303). -/
def exec_bit_2_L (s : State) : Answer := cbBit 2 .l s

/-- CB56: BIT 2,(HL) (R303). -/
def exec_bit_2_atHL (s : State) : Answer := cbBit 2 .atHL s

/-- CB57: BIT 2,A (R303). -/
def exec_bit_2_A (s : State) : Answer := cbBit 2 .a s

/-- CB58: BIT 3,B (R303). -/
def exec_bit_3_B (s : State) : Answer := cbBit 3 .b s

/-- CB59: BIT 3,C (R303). -/
def exec_bit_3_C (s : State) : Answer := cbBit 3 .c s

/-- CB5A: BIT 3,D (R303). -/
def exec_bit_3_D (s : State) : Answer := cbBit 3 .d s

/-- CB5B: BIT 3,E (R303). -/
def exec_bit_3_E (s : State) : Answer := cbBit 3 .e s

/-- CB5C: BIT 3,H (R303). -/
def exec_bit_3_H (s : State) : Answer := cbBit 3 .h s

/-- CB5D: BIT 3,L (R303). -/
def exec_bit_3_L (s : State) : Answer := cbBit 3 .l s

/-- CB5E: BIT 3,(HL) (R303). -/
def exec_bit_3_atHL (s : State) : Answer := cbBit 3 .atHL s

/-- CB5F: BIT 3,A (R303). -/
def exec_bit_3_A (s : State) : Answer := cbBit 3 .a s

/-- CB60: BIT 4,B (R303). -/
def exec_bit_4_B (s : State) : Answer := cbBit 4 .b s

/-- CB61: BIT 4,C (R303). -/
def exec_bit_4_C (s : State) : Answer := cbBit 4 .c s

/-- CB62: BIT 4,D (R303). -/
def exec_bit_4_D (s : State) : Answer := cbBit 4 .d s

/-- CB63: BIT 4,E (R303). -/
def exec_bit_4_E (s : State) : Answer := cbBit 4 .e s

/-- CB64: BIT 4,H (R303). -/
def exec_bit_4_H (s : State) : Answer := cbBit 4 .h s

/-- CB65: BIT 4,L (R303). -/
def exec_bit_4_L (s : State) : Answer := cbBit 4 .l s

/-- CB66: BIT 4,(HL) (R303). -/
def exec_bit_4_atHL (s : State) : Answer := cbBit 4 .atHL s

/-- CB67: BIT 4,A (R303). -/
def exec_bit_4_A (s : State) : Answer := cbBit 4 .a s

/-- CB68: BIT 5,B (R303). -/
def exec_bit_5_B (s : State) : Answer := cbBit 5 .b s

/-- CB69: BIT 5,C (R303). -/
def exec_bit_5_C (s : State) : Answer := cbBit 5 .c s

/-- CB6A: BIT 5,D (R303). -/
def exec_bit_5_D (s : State) : Answer := cbBit 5 .d s

/-- CB6B: BIT 5,E (R303). -/
def exec_bit_5_E (s : State) : Answer := cbBit 5 .e s

/-- CB6C: BIT 5,H (R303). -/
def exec_bit_5_H (s : State) : Answer := cbBit 5 .h s

/-- CB6D: BIT 5,L (R303). -/
def exec_bit_5_L (s : State) : Answer := cbBit 5 .l s

/-- CB6E: BIT 5,(HL) (R303). -/
def exec_bit_5_atHL (s : State) : Answer := cbBit 5 .atHL s

/-- CB6F: BIT 5,A (R303). -/
def exec_bit_5_A (s : State) : Answer := cbBit 5 .a s

/-- CB70: BIT 6,B (R303). -/
def exec_bit_6_B (s : State) : Answer := cbBit 6 .b s

/-- CB71: BIT 6,C (R303). -/
def exec_bit_6_C (s : State) : Answer := cbBit 6 .c s

/-- CB72: BIT 6,D (R303). -/
def exec_bit_6_D (s : State) : Answer := cbBit 6 .d s

/-- CB73: BIT 6,E (R303). -/
def exec_bit_6_E (s : State) : Answer := cbBit 6 .e s

/-- CB74: BIT 6,H (R303). -/
def exec_bit_6_H (s : State) : Answer := cbBit 6 .h s

/-- CB75: BIT 6,L (R303). -/
def exec_bit_6_L (s : State) : Answer := cbBit 6 .l s

/-- CB76: BIT 6,(HL) (R303). -/
def exec_bit_6_atHL (s : State) : Answer := cbBit 6 .atHL s

/-- CB77: BIT 6,A (R303). -/
def exec_bit_6_A (s : State) : Answer := cbBit 6 .a s

/-- CB78: BIT 7,B (R303). -/
def exec_bit_7_B (s : State) : Answer := cbBit 7 .b s

/-- CB79: BIT 7,C (R303). -/
def exec_bit_7_C (s : State) : Answer := cbBit 7 .c s

/-- CB7A: BIT 7,D (R303). -/
def exec_bit_7_D (s : State) : Answer := cbBit 7 .d s

/-- CB7B: BIT 7,E (R303). -/
def exec_bit_7_E (s : State) : Answer := cbBit 7 .e s

/-- CB7C: BIT 7,H (R303). -/
def exec_bit_7_H (s : State) : Answer := cbBit 7 .h s

/-- CB7D: BIT 7,L (R303). -/
def exec_bit_7_L (s : State) : Answer := cbBit 7 .l s

/-- CB7E: BIT 7,(HL) (R303). -/
def exec_bit_7_atHL (s : State) : Answer := cbBit 7 .atHL s

/-- CB7F: BIT 7,A (R303). -/
def exec_bit_7_A (s : State) : Answer := cbBit 7 .a s

/-- CB80: RES 0,B (R304). -/
def exec_res_0_B (s : State) : Answer := cbWrite (resBit 0) .b s

/-- CB81: RES 0,C (R304). -/
def exec_res_0_C (s : State) : Answer := cbWrite (resBit 0) .c s

/-- CB82: RES 0,D (R304). -/
def exec_res_0_D (s : State) : Answer := cbWrite (resBit 0) .d s

/-- CB83: RES 0,E (R304). -/
def exec_res_0_E (s : State) : Answer := cbWrite (resBit 0) .e s

/-- CB84: RES 0,H (R304). -/
def exec_res_0_H (s : State) : Answer := cbWrite (resBit 0) .h s

/-- CB85: RES 0,L (R304). -/
def exec_res_0_L (s : State) : Answer := cbWrite (resBit 0) .l s

/-- CB86: RES 0,(HL) (R304). -/
def exec_res_0_atHL (s : State) : Answer := cbWrite (resBit 0) .atHL s

/-- CB87: RES 0,A (R304). -/
def exec_res_0_A (s : State) : Answer := cbWrite (resBit 0) .a s

/-- CB88: RES 1,B (R304). -/
def exec_res_1_B (s : State) : Answer := cbWrite (resBit 1) .b s

/-- CB89: RES 1,C (R304). -/
def exec_res_1_C (s : State) : Answer := cbWrite (resBit 1) .c s

/-- CB8A: RES 1,D (R304). -/
def exec_res_1_D (s : State) : Answer := cbWrite (resBit 1) .d s

/-- CB8B: RES 1,E (R304). -/
def exec_res_1_E (s : State) : Answer := cbWrite (resBit 1) .e s

/-- CB8C: RES 1,H (R304). -/
def exec_res_1_H (s : State) : Answer := cbWrite (resBit 1) .h s

/-- CB8D: RES 1,L (R304). -/
def exec_res_1_L (s : State) : Answer := cbWrite (resBit 1) .l s

/-- CB8E: RES 1,(HL) (R304). -/
def exec_res_1_atHL (s : State) : Answer := cbWrite (resBit 1) .atHL s

/-- CB8F: RES 1,A (R304). -/
def exec_res_1_A (s : State) : Answer := cbWrite (resBit 1) .a s

/-- CB90: RES 2,B (R304). -/
def exec_res_2_B (s : State) : Answer := cbWrite (resBit 2) .b s

/-- CB91: RES 2,C (R304). -/
def exec_res_2_C (s : State) : Answer := cbWrite (resBit 2) .c s

/-- CB92: RES 2,D (R304). -/
def exec_res_2_D (s : State) : Answer := cbWrite (resBit 2) .d s

/-- CB93: RES 2,E (R304). -/
def exec_res_2_E (s : State) : Answer := cbWrite (resBit 2) .e s

/-- CB94: RES 2,H (R304). -/
def exec_res_2_H (s : State) : Answer := cbWrite (resBit 2) .h s

/-- CB95: RES 2,L (R304). -/
def exec_res_2_L (s : State) : Answer := cbWrite (resBit 2) .l s

/-- CB96: RES 2,(HL) (R304). -/
def exec_res_2_atHL (s : State) : Answer := cbWrite (resBit 2) .atHL s

/-- CB97: RES 2,A (R304). -/
def exec_res_2_A (s : State) : Answer := cbWrite (resBit 2) .a s

/-- CB98: RES 3,B (R304). -/
def exec_res_3_B (s : State) : Answer := cbWrite (resBit 3) .b s

/-- CB99: RES 3,C (R304). -/
def exec_res_3_C (s : State) : Answer := cbWrite (resBit 3) .c s

/-- CB9A: RES 3,D (R304). -/
def exec_res_3_D (s : State) : Answer := cbWrite (resBit 3) .d s

/-- CB9B: RES 3,E (R304). -/
def exec_res_3_E (s : State) : Answer := cbWrite (resBit 3) .e s

/-- CB9C: RES 3,H (R304). -/
def exec_res_3_H (s : State) : Answer := cbWrite (resBit 3) .h s

/-- CB9D: RES 3,L (R304). -/
def exec_res_3_L (s : State) : Answer := cbWrite (resBit 3) .l s

/-- CB9E: RES 3,(HL) (R304). -/
def exec_res_3_atHL (s : State) : Answer := cbWrite (resBit 3) .atHL s

/-- CB9F: RES 3,A (R304). -/
def exec_res_3_A (s : State) : Answer := cbWrite (resBit 3) .a s

/-- CBA0: RES 4,B (R304). -/
def exec_res_4_B (s : State) : Answer := cbWrite (resBit 4) .b s

/-- CBA1: RES 4,C (R304). -/
def exec_res_4_C (s : State) : Answer := cbWrite (resBit 4) .c s

/-- CBA2: RES 4,D (R304). -/
def exec_res_4_D (s : State) : Answer := cbWrite (resBit 4) .d s

/-- CBA3: RES 4,E (R304). -/
def exec_res_4_E (s : State) : Answer := cbWrite (resBit 4) .e s

/-- CBA4: RES 4,H (R304). -/
def exec_res_4_H (s : State) : Answer := cbWrite (resBit 4) .h s

/-- CBA5: RES 4,L (R304). -/
def exec_res_4_L (s : State) : Answer := cbWrite (resBit 4) .l s

/-- CBA6: RES 4,(HL) (R304). -/
def exec_res_4_atHL (s : State) : Answer := cbWrite (resBit 4) .atHL s

/-- CBA7: RES 4,A (R304). -/
def exec_res_4_A (s : State) : Answer := cbWrite (resBit 4) .a s

/-- CBA8: RES 5,B (R304). -/
def exec_res_5_B (s : State) : Answer := cbWrite (resBit 5) .b s

/-- CBA9: RES 5,C (R304). -/
def exec_res_5_C (s : State) : Answer := cbWrite (resBit 5) .c s

/-- CBAA: RES 5,D (R304). -/
def exec_res_5_D (s : State) : Answer := cbWrite (resBit 5) .d s

/-- CBAB: RES 5,E (R304). -/
def exec_res_5_E (s : State) : Answer := cbWrite (resBit 5) .e s

/-- CBAC: RES 5,H (R304). -/
def exec_res_5_H (s : State) : Answer := cbWrite (resBit 5) .h s

/-- CBAD: RES 5,L (R304). -/
def exec_res_5_L (s : State) : Answer := cbWrite (resBit 5) .l s

/-- CBAE: RES 5,(HL) (R304). -/
def exec_res_5_atHL (s : State) : Answer := cbWrite (resBit 5) .atHL s

/-- CBAF: RES 5,A (R304). -/
def exec_res_5_A (s : State) : Answer := cbWrite (resBit 5) .a s

/-- CBB0: RES 6,B (R304). -/
def exec_res_6_B (s : State) : Answer := cbWrite (resBit 6) .b s

/-- CBB1: RES 6,C (R304). -/
def exec_res_6_C (s : State) : Answer := cbWrite (resBit 6) .c s

/-- CBB2: RES 6,D (R304). -/
def exec_res_6_D (s : State) : Answer := cbWrite (resBit 6) .d s

/-- CBB3: RES 6,E (R304). -/
def exec_res_6_E (s : State) : Answer := cbWrite (resBit 6) .e s

/-- CBB4: RES 6,H (R304). -/
def exec_res_6_H (s : State) : Answer := cbWrite (resBit 6) .h s

/-- CBB5: RES 6,L (R304). -/
def exec_res_6_L (s : State) : Answer := cbWrite (resBit 6) .l s

/-- CBB6: RES 6,(HL) (R304). -/
def exec_res_6_atHL (s : State) : Answer := cbWrite (resBit 6) .atHL s

/-- CBB7: RES 6,A (R304). -/
def exec_res_6_A (s : State) : Answer := cbWrite (resBit 6) .a s

/-- CBB8: RES 7,B (R304). -/
def exec_res_7_B (s : State) : Answer := cbWrite (resBit 7) .b s

/-- CBB9: RES 7,C (R304). -/
def exec_res_7_C (s : State) : Answer := cbWrite (resBit 7) .c s

/-- CBBA: RES 7,D (R304). -/
def exec_res_7_D (s : State) : Answer := cbWrite (resBit 7) .d s

/-- CBBB: RES 7,E (R304). -/
def exec_res_7_E (s : State) : Answer := cbWrite (resBit 7) .e s

/-- CBBC: RES 7,H (R304). -/
def exec_res_7_H (s : State) : Answer := cbWrite (resBit 7) .h s

/-- CBBD: RES 7,L (R304). -/
def exec_res_7_L (s : State) : Answer := cbWrite (resBit 7) .l s

/-- CBBE: RES 7,(HL) (R304). -/
def exec_res_7_atHL (s : State) : Answer := cbWrite (resBit 7) .atHL s

/-- CBBF: RES 7,A (R304). -/
def exec_res_7_A (s : State) : Answer := cbWrite (resBit 7) .a s

/-- CBC0: SET 0,B (R305). -/
def exec_set_0_B (s : State) : Answer := cbWrite (setBit 0) .b s

/-- CBC1: SET 0,C (R305). -/
def exec_set_0_C (s : State) : Answer := cbWrite (setBit 0) .c s

/-- CBC2: SET 0,D (R305). -/
def exec_set_0_D (s : State) : Answer := cbWrite (setBit 0) .d s

/-- CBC3: SET 0,E (R305). -/
def exec_set_0_E (s : State) : Answer := cbWrite (setBit 0) .e s

/-- CBC4: SET 0,H (R305). -/
def exec_set_0_H (s : State) : Answer := cbWrite (setBit 0) .h s

/-- CBC5: SET 0,L (R305). -/
def exec_set_0_L (s : State) : Answer := cbWrite (setBit 0) .l s

/-- CBC6: SET 0,(HL) (R305). -/
def exec_set_0_atHL (s : State) : Answer := cbWrite (setBit 0) .atHL s

/-- CBC7: SET 0,A (R305). -/
def exec_set_0_A (s : State) : Answer := cbWrite (setBit 0) .a s

/-- CBC8: SET 1,B (R305). -/
def exec_set_1_B (s : State) : Answer := cbWrite (setBit 1) .b s

/-- CBC9: SET 1,C (R305). -/
def exec_set_1_C (s : State) : Answer := cbWrite (setBit 1) .c s

/-- CBCA: SET 1,D (R305). -/
def exec_set_1_D (s : State) : Answer := cbWrite (setBit 1) .d s

/-- CBCB: SET 1,E (R305). -/
def exec_set_1_E (s : State) : Answer := cbWrite (setBit 1) .e s

/-- CBCC: SET 1,H (R305). -/
def exec_set_1_H (s : State) : Answer := cbWrite (setBit 1) .h s

/-- CBCD: SET 1,L (R305). -/
def exec_set_1_L (s : State) : Answer := cbWrite (setBit 1) .l s

/-- CBCE: SET 1,(HL) (R305). -/
def exec_set_1_atHL (s : State) : Answer := cbWrite (setBit 1) .atHL s

/-- CBCF: SET 1,A (R305). -/
def exec_set_1_A (s : State) : Answer := cbWrite (setBit 1) .a s

/-- CBD0: SET 2,B (R305). -/
def exec_set_2_B (s : State) : Answer := cbWrite (setBit 2) .b s

/-- CBD1: SET 2,C (R305). -/
def exec_set_2_C (s : State) : Answer := cbWrite (setBit 2) .c s

/-- CBD2: SET 2,D (R305). -/
def exec_set_2_D (s : State) : Answer := cbWrite (setBit 2) .d s

/-- CBD3: SET 2,E (R305). -/
def exec_set_2_E (s : State) : Answer := cbWrite (setBit 2) .e s

/-- CBD4: SET 2,H (R305). -/
def exec_set_2_H (s : State) : Answer := cbWrite (setBit 2) .h s

/-- CBD5: SET 2,L (R305). -/
def exec_set_2_L (s : State) : Answer := cbWrite (setBit 2) .l s

/-- CBD6: SET 2,(HL) (R305). -/
def exec_set_2_atHL (s : State) : Answer := cbWrite (setBit 2) .atHL s

/-- CBD7: SET 2,A (R305). -/
def exec_set_2_A (s : State) : Answer := cbWrite (setBit 2) .a s

/-- CBD8: SET 3,B (R305). -/
def exec_set_3_B (s : State) : Answer := cbWrite (setBit 3) .b s

/-- CBD9: SET 3,C (R305). -/
def exec_set_3_C (s : State) : Answer := cbWrite (setBit 3) .c s

/-- CBDA: SET 3,D (R305). -/
def exec_set_3_D (s : State) : Answer := cbWrite (setBit 3) .d s

/-- CBDB: SET 3,E (R305). -/
def exec_set_3_E (s : State) : Answer := cbWrite (setBit 3) .e s

/-- CBDC: SET 3,H (R305). -/
def exec_set_3_H (s : State) : Answer := cbWrite (setBit 3) .h s

/-- CBDD: SET 3,L (R305). -/
def exec_set_3_L (s : State) : Answer := cbWrite (setBit 3) .l s

/-- CBDE: SET 3,(HL) (R305). -/
def exec_set_3_atHL (s : State) : Answer := cbWrite (setBit 3) .atHL s

/-- CBDF: SET 3,A (R305). -/
def exec_set_3_A (s : State) : Answer := cbWrite (setBit 3) .a s

/-- CBE0: SET 4,B (R305). -/
def exec_set_4_B (s : State) : Answer := cbWrite (setBit 4) .b s

/-- CBE1: SET 4,C (R305). -/
def exec_set_4_C (s : State) : Answer := cbWrite (setBit 4) .c s

/-- CBE2: SET 4,D (R305). -/
def exec_set_4_D (s : State) : Answer := cbWrite (setBit 4) .d s

/-- CBE3: SET 4,E (R305). -/
def exec_set_4_E (s : State) : Answer := cbWrite (setBit 4) .e s

/-- CBE4: SET 4,H (R305). -/
def exec_set_4_H (s : State) : Answer := cbWrite (setBit 4) .h s

/-- CBE5: SET 4,L (R305). -/
def exec_set_4_L (s : State) : Answer := cbWrite (setBit 4) .l s

/-- CBE6: SET 4,(HL) (R305). -/
def exec_set_4_atHL (s : State) : Answer := cbWrite (setBit 4) .atHL s

/-- CBE7: SET 4,A (R305). -/
def exec_set_4_A (s : State) : Answer := cbWrite (setBit 4) .a s

/-- CBE8: SET 5,B (R305). -/
def exec_set_5_B (s : State) : Answer := cbWrite (setBit 5) .b s

/-- CBE9: SET 5,C (R305). -/
def exec_set_5_C (s : State) : Answer := cbWrite (setBit 5) .c s

/-- CBEA: SET 5,D (R305). -/
def exec_set_5_D (s : State) : Answer := cbWrite (setBit 5) .d s

/-- CBEB: SET 5,E (R305). -/
def exec_set_5_E (s : State) : Answer := cbWrite (setBit 5) .e s

/-- CBEC: SET 5,H (R305). -/
def exec_set_5_H (s : State) : Answer := cbWrite (setBit 5) .h s

/-- CBED: SET 5,L (R305). -/
def exec_set_5_L (s : State) : Answer := cbWrite (setBit 5) .l s

/-- CBEE: SET 5,(HL) (R305). -/
def exec_set_5_atHL (s : State) : Answer := cbWrite (setBit 5) .atHL s

/-- CBEF: SET 5,A (R305). -/
def exec_set_5_A (s : State) : Answer := cbWrite (setBit 5) .a s

/-- CBF0: SET 6,B (R305). -/
def exec_set_6_B (s : State) : Answer := cbWrite (setBit 6) .b s

/-- CBF1: SET 6,C (R305). -/
def exec_set_6_C (s : State) : Answer := cbWrite (setBit 6) .c s

/-- CBF2: SET 6,D (R305). -/
def exec_set_6_D (s : State) : Answer := cbWrite (setBit 6) .d s

/-- CBF3: SET 6,E (R305). -/
def exec_set_6_E (s : State) : Answer := cbWrite (setBit 6) .e s

/-- CBF4: SET 6,H (R305). -/
def exec_set_6_H (s : State) : Answer := cbWrite (setBit 6) .h s

/-- CBF5: SET 6,L (R305). -/
def exec_set_6_L (s : State) : Answer := cbWrite (setBit 6) .l s

/-- CBF6: SET 6,(HL) (R305). -/
def exec_set_6_atHL (s : State) : Answer := cbWrite (setBit 6) .atHL s

/-- CBF7: SET 6,A (R305). -/
def exec_set_6_A (s : State) : Answer := cbWrite (setBit 6) .a s

/-- CBF8: SET 7,B (R305). -/
def exec_set_7_B (s : State) : Answer := cbWrite (setBit 7) .b s

/-- CBF9: SET 7,C (R305). -/
def exec_set_7_C (s : State) : Answer := cbWrite (setBit 7) .c s

/-- CBFA: SET 7,D (R305). -/
def exec_set_7_D (s : State) : Answer := cbWrite (setBit 7) .d s

/-- CBFB: SET 7,E (R305). -/
def exec_set_7_E (s : State) : Answer := cbWrite (setBit 7) .e s

/-- CBFC: SET 7,H (R305). -/
def exec_set_7_H (s : State) : Answer := cbWrite (setBit 7) .h s

/-- CBFD: SET 7,L (R305). -/
def exec_set_7_L (s : State) : Answer := cbWrite (setBit 7) .l s

/-- CBFE: SET 7,(HL) (R305). -/
def exec_set_7_atHL (s : State) : Answer := cbWrite (setBit 7) .atHL s

/-- CBFF: SET 7,A (R305). -/
def exec_set_7_A (s : State) : Answer := cbWrite (setBit 7) .a s

end Sys2Proof.Machine
end

