-- ==== Sys2Proof/Machine/Control.lean ====
section
/-! DEFINITION. Jumps, calls and returns (46_control_transfer.md). None writes a flag, none raises an exception; in each `next` is PC after the instruction's bytes (R36). -/
namespace Sys2Proof.Machine

/-- A relative jump from `next` (R324). -/
def jumpBy (e : Byte) (t : State) : State := withPc t (t.cpu.pc + sext16 e)

/-- `push16(next); PC <- target` (R326, R331). -/
def callTo (target : Word) (t : State) : State := withPc (push16 t.cpu.pc t) target

/-- `PC <- pop16()` (R328). -/
def returnTo (t : State) : State := withPc (popped t) (popValue t)

/-- JP cc,a16 (R322): 16 cycles taken, 12 not. -/
def jpCond (k : Cond) (nn : Word) (s : State) : Answer :=
  let t := advance 3 s
  if k.holds s.cpu.f then done 16 (withPc t nn) else done 12 t

/-- JR cc,e8 (R325): 12 cycles taken, 8 not. -/
def jrCond (k : Cond) (e : Byte) (s : State) : Answer :=
  let t := advance 2 s
  if k.holds s.cpu.f then done 12 (jumpBy e t) else done 8 t

/-- CALL cc,a16 (R327): 24 cycles taken, 12 not. -/
def callCond (k : Cond) (nn : Word) (s : State) : Answer :=
  let t := advance 3 s
  if k.holds s.cpu.f then done 24 (callTo nn t) else done 12 t

/-- RET cc (R329): 20 cycles taken, 8 not. -/
def retCond (k : Cond) (s : State) : Answer :=
  let t := advance 1 s
  if k.holds s.cpu.f then done 20 (returnTo t) else done 8 t

/-- RST t (R331), 16 cycles. -/
def rst (target : Byte) (s : State) : Answer := done 16 (callTo (zext16 target) (advance 1 s))

/-- 18: JR e8 (R324). -/
def exec_jr_e8 (e : Byte) (s : State) : Answer := done 12 (jumpBy e (advance 2 s))

/-- 20: JR NZ,e8 (R325). -/
def exec_jr_NZ_e8 (e : Byte) (s : State) : Answer := jrCond .nz e s

/-- 28: JR Z,e8 (R325). -/
def exec_jr_Z_e8 (e : Byte) (s : State) : Answer := jrCond .z e s

/-- 30: JR NC,e8 (R325). -/
def exec_jr_NC_e8 (e : Byte) (s : State) : Answer := jrCond .nc e s

/-- 38: JR C,e8 (R325). -/
def exec_jr_C_e8 (e : Byte) (s : State) : Answer := jrCond .c e s

/-- C0: RET NZ (R329). -/
def exec_ret_NZ (s : State) : Answer := retCond .nz s

/-- C2: JP NZ,a16 (R322). -/
def exec_jp_NZ_a16 (nn : Word) (s : State) : Answer := jpCond .nz nn s

/-- C3: JP a16 (R321). -/
def exec_jp_a16 (nn : Word) (s : State) : Answer := done 16 (withPc (advance 3 s) nn)

/-- C4: CALL NZ,a16 (R327). -/
def exec_call_NZ_a16 (nn : Word) (s : State) : Answer := callCond .nz nn s

/-- C7: RST 00H (R331). -/
def exec_rst_00 (s : State) : Answer := rst 0x00 s

/-- C8: RET Z (R329). -/
def exec_ret_Z (s : State) : Answer := retCond .z s

/-- C9: RET (R328). -/
def exec_ret (s : State) : Answer := done 16 (returnTo (advance 1 s))

/-- CA: JP Z,a16 (R322). -/
def exec_jp_Z_a16 (nn : Word) (s : State) : Answer := jpCond .z nn s

/-- CC: CALL Z,a16 (R327). -/
def exec_call_Z_a16 (nn : Word) (s : State) : Answer := callCond .z nn s

/-- CD: CALL a16 (R326). -/
def exec_call_a16 (nn : Word) (s : State) : Answer := done 24 (callTo nn (advance 3 s))

/-- CF: RST 08H (R331). -/
def exec_rst_08 (s : State) : Answer := rst 0x08 s

/-- D0: RET NC (R329). -/
def exec_ret_NC (s : State) : Answer := retCond .nc s

/-- D2: JP NC,a16 (R322). -/
def exec_jp_NC_a16 (nn : Word) (s : State) : Answer := jpCond .nc nn s

/-- D4: CALL NC,a16 (R327). -/
def exec_call_NC_a16 (nn : Word) (s : State) : Answer := callCond .nc nn s

/-- D7: RST 10H (R331). -/
def exec_rst_10 (s : State) : Answer := rst 0x10 s

/-- D8: RET C (R329). -/
def exec_ret_C (s : State) : Answer := retCond .c s

/-- D9: RETI (R330). -/
def exec_reti (s : State) : Answer := done 16 (returnFromInterrupt (advance 1 s))

/-- DA: JP C,a16 (R322). -/
def exec_jp_C_a16 (nn : Word) (s : State) : Answer := jpCond .c nn s

/-- DC: CALL C,a16 (R327). -/
def exec_call_C_a16 (nn : Word) (s : State) : Answer := callCond .c nn s

/-- DF: RST 18H (R331). -/
def exec_rst_18 (s : State) : Answer := rst 0x18 s

/-- E7: RST 20H (R331). -/
def exec_rst_20 (s : State) : Answer := rst 0x20 s

/-- E9: JP (HL) (R323). -/
def exec_jp_atHL (s : State) : Answer := done 4 (withPc (advance 1 s) (pair s .hl))

/-- EF: RST 28H (R331). -/
def exec_rst_28 (s : State) : Answer := rst 0x28 s

/-- F7: RST 30H (R331). -/
def exec_rst_30 (s : State) : Answer := rst 0x30 s

/-- FF: RST 38H (R331). -/
def exec_rst_38 (s : State) : Answer := rst 0x38 s

end Sys2Proof.Machine
end

