-- ==== Sys2Proof/Machine/Load16.lean ====
section
/-! DEFINITION. The 16-bit loads and the stack instructions (42_loads_16bit_stack.md). None raises an exception. -/
namespace Sys2Proof.Machine

/-- PUSH rr (R234), 16 cycles. -/
def pushPair (p : Pair) (s : State) : Answer := done 16 (push16 (pair s p) (advance 1 s))

/-- POP rr (R235, R236), 12 cycles; the AF pair drops the low nibble of F. -/
def popPair (p : Pair) (s : State) : Answer :=
  let t := advance 1 s
  done 12 (withPair (popped t) p (popValue t))

/-- 01: LD BC,d16 (R230). -/
def exec_ld_BC_d16 (nn : Word) (s : State) : Answer := done 12 (withPair (advance 3 s) .bc nn)

/-- 08: LD (a16),SP (R231). -/
def exec_ld_at_a16_SP (nn : Word) (s : State) : Answer :=
  done 20 (memWrite (memWrite (advance 3 s) nn (loByte s.cpu.sp)) (nn + 1) (hiByte s.cpu.sp))

/-- 11: LD DE,d16 (R230). -/
def exec_ld_DE_d16 (nn : Word) (s : State) : Answer := done 12 (withPair (advance 3 s) .de nn)

/-- 21: LD HL,d16 (R230). -/
def exec_ld_HL_d16 (nn : Word) (s : State) : Answer := done 12 (withPair (advance 3 s) .hl nn)

/-- 31: LD SP,d16 (R230). -/
def exec_ld_SP_d16 (nn : Word) (s : State) : Answer := done 12 (withPair (advance 3 s) .sp nn)

/-- C1: POP BC (R235). -/
def exec_pop_BC (s : State) : Answer := popPair .bc s

/-- C5: PUSH BC (R234). -/
def exec_push_BC (s : State) : Answer := pushPair .bc s

/-- D1: POP DE (R235). -/
def exec_pop_DE (s : State) : Answer := popPair .de s

/-- D5: PUSH DE (R234). -/
def exec_push_DE (s : State) : Answer := pushPair .de s

/-- E1: POP HL (R235). -/
def exec_pop_HL (s : State) : Answer := popPair .hl s

/-- E5: PUSH HL (R234). -/
def exec_push_HL (s : State) : Answer := pushPair .hl s

/-- F1: POP AF (R236). -/
def exec_pop_AF (s : State) : Answer := popPair .af s

/-- F5: PUSH AF (R234). -/
def exec_push_AF (s : State) : Answer := pushPair .af s

/-- F8: LD HL,SP+e8 (R233). -/
def exec_ld_HL_SP_e8 (e : Byte) (s : State) : Answer :=
  let r := addSp s.cpu.sp e
  done 12 (withFlags (withPair (advance 2 s) .hl r.1) r.2)

/-- F9: LD SP,HL (R232). -/
def exec_ld_SP_HL (s : State) : Answer := done 8 (withSp (advance 1 s) (pair s .hl))

end Sys2Proof.Machine
end

