-- ==== Sys2Proof/Machine/Load8.lean ====
section
/-! DEFINITION. The 8-bit loads and stores (41_loads_8bit.md). None writes a flag, none raises an exception. -/
namespace Sys2Proof.Machine

/-- LD r,r' (R200), 4 cycles. -/
def ldReg (dst r : R8) (s : State) : Answer :=
  let t := advance 1 s
  done 4 (wr8 t dst (rd8 t r))

/-- LD r,d8 (R201), 8 cycles. -/
def ldImm (dst : R8) (n : Byte) (s : State) : Answer := done 8 (wr8 (advance 2 s) dst n)

/-- LD r,(HL) (R202), 8 cycles: HL is read before half of it may be overwritten. -/
def ldFromHL (dst : R8) (s : State) : Answer :=
  let t := advance 1 s
  done 8 (wr8 t dst (rd8 t .atHL))

/-- LD (HL),r (R203), 8 cycles. -/
def ldToHL (r : R8) (s : State) : Answer :=
  let t := advance 1 s
  done 8 (wr8 t .atHL (rd8 t r))

/-- A load of A from `addr` by an instruction of `len` bytes (R205, R206, R209, R211, R213). -/
def ldAFrom (len cycles : Nat) (addr : Word) (s : State) : Answer :=
  let t := advance len s
  done cycles (withA t (memRead t addr))

/-- A store of A to `addr` by an instruction of `len` bytes (R207, R208, R210, R212, R214). -/
def stAAt (len cycles : Nat) (addr : Word) (s : State) : Answer :=
  let t := advance len s
  done cycles (memWrite t addr t.cpu.a)

/-- The address `0xFF00 | n` of LDH and of (C) (R180). -/
def highPage (n : Byte) : Word := 0xFF00 ||| zext16 n

/-- LD (HL+),A and LD (HL-),A (R215, R216), 8 cycles: the store, then HL moves by `k`. -/
def stAAtHLStep (k : Word) (s : State) : Answer :=
  let t := advance 1 s
  let u := memWrite t (pair t .hl) t.cpu.a
  done 8 (withPair u .hl (pair u .hl + k))

/-- LD A,(HL+) and LD A,(HL-) (R217, R218), 8 cycles: the load, then HL moves by `k`. -/
def ldAFromHLStep (k : Word) (s : State) : Answer :=
  let t := advance 1 s
  let u := withA t (memRead t (pair t .hl))
  done 8 (withPair u .hl (pair u .hl + k))

/-- 02: LD (BC),A (R207). -/
def exec_ld_atBC_A (s : State) : Answer := stAAt 1 8 (pair s .bc) s

/-- 06: LD B,d8 (R201). -/
def exec_ld_B_d8 (n : Byte) (s : State) : Answer := ldImm .b n s

/-- 0A: LD A,(BC) (R205). -/
def exec_ld_A_atBC (s : State) : Answer := ldAFrom 1 8 (pair s .bc) s

/-- 0E: LD C,d8 (R201). -/
def exec_ld_C_d8 (n : Byte) (s : State) : Answer := ldImm .c n s

/-- 12: LD (DE),A (R208). -/
def exec_ld_atDE_A (s : State) : Answer := stAAt 1 8 (pair s .de) s

/-- 16: LD D,d8 (R201). -/
def exec_ld_D_d8 (n : Byte) (s : State) : Answer := ldImm .d n s

/-- 1A: LD A,(DE) (R206). -/
def exec_ld_A_atDE (s : State) : Answer := ldAFrom 1 8 (pair s .de) s

/-- 1E: LD E,d8 (R201). -/
def exec_ld_E_d8 (n : Byte) (s : State) : Answer := ldImm .e n s

/-- 22: LD (HL+),A (R215). -/
def exec_ld_atHLinc_A (s : State) : Answer := stAAtHLStep 1 s

/-- 26: LD H,d8 (R201). -/
def exec_ld_H_d8 (n : Byte) (s : State) : Answer := ldImm .h n s

/-- 2A: LD A,(HL+) (R217). -/
def exec_ld_A_atHLinc (s : State) : Answer := ldAFromHLStep 1 s

/-- 2E: LD L,d8 (R201). -/
def exec_ld_L_d8 (n : Byte) (s : State) : Answer := ldImm .l n s

/-- 32: LD (HL-),A (R216). -/
def exec_ld_atHLdec_A (s : State) : Answer := stAAtHLStep (-1) s

/-- 36: LD (HL),d8 (R204). -/
def exec_ld_atHL_d8 (n : Byte) (s : State) : Answer := done 12 (wr8 (advance 2 s) .atHL n)

/-- 3A: LD A,(HL-) (R218). -/
def exec_ld_A_atHLdec (s : State) : Answer := ldAFromHLStep (-1) s

/-- 3E: LD A,d8 (R201). -/
def exec_ld_A_d8 (n : Byte) (s : State) : Answer := ldImm .a n s

/-- 40: LD B,B (R200). -/
def exec_ld_B_B (s : State) : Answer := ldReg .b .b s

/-- 41: LD B,C (R200). -/
def exec_ld_B_C (s : State) : Answer := ldReg .b .c s

/-- 42: LD B,D (R200). -/
def exec_ld_B_D (s : State) : Answer := ldReg .b .d s

/-- 43: LD B,E (R200). -/
def exec_ld_B_E (s : State) : Answer := ldReg .b .e s

/-- 44: LD B,H (R200). -/
def exec_ld_B_H (s : State) : Answer := ldReg .b .h s

/-- 45: LD B,L (R200). -/
def exec_ld_B_L (s : State) : Answer := ldReg .b .l s

/-- 46: LD B,(HL) (R202). -/
def exec_ld_B_atHL (s : State) : Answer := ldFromHL .b s

/-- 47: LD B,A (R200). -/
def exec_ld_B_A (s : State) : Answer := ldReg .b .a s

/-- 48: LD C,B (R200). -/
def exec_ld_C_B (s : State) : Answer := ldReg .c .b s

/-- 49: LD C,C (R200). -/
def exec_ld_C_C (s : State) : Answer := ldReg .c .c s

/-- 4A: LD C,D (R200). -/
def exec_ld_C_D (s : State) : Answer := ldReg .c .d s

/-- 4B: LD C,E (R200). -/
def exec_ld_C_E (s : State) : Answer := ldReg .c .e s

/-- 4C: LD C,H (R200). -/
def exec_ld_C_H (s : State) : Answer := ldReg .c .h s

/-- 4D: LD C,L (R200). -/
def exec_ld_C_L (s : State) : Answer := ldReg .c .l s

/-- 4E: LD C,(HL) (R202). -/
def exec_ld_C_atHL (s : State) : Answer := ldFromHL .c s

/-- 4F: LD C,A (R200). -/
def exec_ld_C_A (s : State) : Answer := ldReg .c .a s

/-- 50: LD D,B (R200). -/
def exec_ld_D_B (s : State) : Answer := ldReg .d .b s

/-- 51: LD D,C (R200). -/
def exec_ld_D_C (s : State) : Answer := ldReg .d .c s

/-- 52: LD D,D (R200). -/
def exec_ld_D_D (s : State) : Answer := ldReg .d .d s

/-- 53: LD D,E (R200). -/
def exec_ld_D_E (s : State) : Answer := ldReg .d .e s

/-- 54: LD D,H (R200). -/
def exec_ld_D_H (s : State) : Answer := ldReg .d .h s

/-- 55: LD D,L (R200). -/
def exec_ld_D_L (s : State) : Answer := ldReg .d .l s

/-- 56: LD D,(HL) (R202). -/
def exec_ld_D_atHL (s : State) : Answer := ldFromHL .d s

/-- 57: LD D,A (R200). -/
def exec_ld_D_A (s : State) : Answer := ldReg .d .a s

/-- 58: LD E,B (R200). -/
def exec_ld_E_B (s : State) : Answer := ldReg .e .b s

/-- 59: LD E,C (R200). -/
def exec_ld_E_C (s : State) : Answer := ldReg .e .c s

/-- 5A: LD E,D (R200). -/
def exec_ld_E_D (s : State) : Answer := ldReg .e .d s

/-- 5B: LD E,E (R200). -/
def exec_ld_E_E (s : State) : Answer := ldReg .e .e s

/-- 5C: LD E,H (R200). -/
def exec_ld_E_H (s : State) : Answer := ldReg .e .h s

/-- 5D: LD E,L (R200). -/
def exec_ld_E_L (s : State) : Answer := ldReg .e .l s

/-- 5E: LD E,(HL) (R202). -/
def exec_ld_E_atHL (s : State) : Answer := ldFromHL .e s

/-- 5F: LD E,A (R200). -/
def exec_ld_E_A (s : State) : Answer := ldReg .e .a s

/-- 60: LD H,B (R200). -/
def exec_ld_H_B (s : State) : Answer := ldReg .h .b s

/-- 61: LD H,C (R200). -/
def exec_ld_H_C (s : State) : Answer := ldReg .h .c s

/-- 62: LD H,D (R200). -/
def exec_ld_H_D (s : State) : Answer := ldReg .h .d s

/-- 63: LD H,E (R200). -/
def exec_ld_H_E (s : State) : Answer := ldReg .h .e s

/-- 64: LD H,H (R200). -/
def exec_ld_H_H (s : State) : Answer := ldReg .h .h s

/-- 65: LD H,L (R200). -/
def exec_ld_H_L (s : State) : Answer := ldReg .h .l s

/-- 66: LD H,(HL) (R202). -/
def exec_ld_H_atHL (s : State) : Answer := ldFromHL .h s

/-- 67: LD H,A (R200). -/
def exec_ld_H_A (s : State) : Answer := ldReg .h .a s

/-- 68: LD L,B (R200). -/
def exec_ld_L_B (s : State) : Answer := ldReg .l .b s

/-- 69: LD L,C (R200). -/
def exec_ld_L_C (s : State) : Answer := ldReg .l .c s

/-- 6A: LD L,D (R200). -/
def exec_ld_L_D (s : State) : Answer := ldReg .l .d s

/-- 6B: LD L,E (R200). -/
def exec_ld_L_E (s : State) : Answer := ldReg .l .e s

/-- 6C: LD L,H (R200). -/
def exec_ld_L_H (s : State) : Answer := ldReg .l .h s

/-- 6D: LD L,L (R200). -/
def exec_ld_L_L (s : State) : Answer := ldReg .l .l s

/-- 6E: LD L,(HL) (R202). -/
def exec_ld_L_atHL (s : State) : Answer := ldFromHL .l s

/-- 6F: LD L,A (R200). -/
def exec_ld_L_A (s : State) : Answer := ldReg .l .a s

/-- 70: LD (HL),B (R203). -/
def exec_ld_atHL_B (s : State) : Answer := ldToHL .b s

/-- 71: LD (HL),C (R203). -/
def exec_ld_atHL_C (s : State) : Answer := ldToHL .c s

/-- 72: LD (HL),D (R203). -/
def exec_ld_atHL_D (s : State) : Answer := ldToHL .d s

/-- 73: LD (HL),E (R203). -/
def exec_ld_atHL_E (s : State) : Answer := ldToHL .e s

/-- 74: LD (HL),H (R203). -/
def exec_ld_atHL_H (s : State) : Answer := ldToHL .h s

/-- 75: LD (HL),L (R203). -/
def exec_ld_atHL_L (s : State) : Answer := ldToHL .l s

/-- 77: LD (HL),A (R203). -/
def exec_ld_atHL_A (s : State) : Answer := ldToHL .a s

/-- 78: LD A,B (R200). -/
def exec_ld_A_B (s : State) : Answer := ldReg .a .b s

/-- 79: LD A,C (R200). -/
def exec_ld_A_C (s : State) : Answer := ldReg .a .c s

/-- 7A: LD A,D (R200). -/
def exec_ld_A_D (s : State) : Answer := ldReg .a .d s

/-- 7B: LD A,E (R200). -/
def exec_ld_A_E (s : State) : Answer := ldReg .a .e s

/-- 7C: LD A,H (R200). -/
def exec_ld_A_H (s : State) : Answer := ldReg .a .h s

/-- 7D: LD A,L (R200). -/
def exec_ld_A_L (s : State) : Answer := ldReg .a .l s

/-- 7E: LD A,(HL) (R202). -/
def exec_ld_A_atHL (s : State) : Answer := ldFromHL .a s

/-- 7F: LD A,A (R200). -/
def exec_ld_A_A (s : State) : Answer := ldReg .a .a s

/-- E0: LDH (a8),A (R212). -/
def exec_ldh_at_a8_A (n : Byte) (s : State) : Answer := stAAt 2 12 (highPage n) s

/-- E2: LD (C),A (R214). -/
def exec_ld_atC_A (s : State) : Answer := stAAt 1 8 (highPage s.cpu.c) s

/-- EA: LD (a16),A (R210). -/
def exec_ld_at_a16_A (nn : Word) (s : State) : Answer := stAAt 3 16 nn s

/-- F0: LDH A,(a8) (R211). -/
def exec_ldh_A_at_a8 (n : Byte) (s : State) : Answer := ldAFrom 2 12 (highPage n) s

/-- F2: LD A,(C) (R213). -/
def exec_ld_A_atC (s : State) : Answer := ldAFrom 1 8 (highPage s.cpu.c) s

/-- FA: LD A,(a16) (R209). -/
def exec_ld_A_at_a16 (nn : Word) (s : State) : Answer := ldAFrom 3 16 nn s

end Sys2Proof.Machine
end

