-- ==== Sys2Proof/Machine/Rotate.lean ====
section
/-! DEFINITION. The accumulator rotates and the CB rotates, shifts and SWAP (45_rotate_shift_bit.md R290 to R302). -/
namespace Sys2Proof.Machine

/-- An accumulator rotate with result and flags `r`, Z cleared (R290 to R293), 4 cycles. -/
def rotA (r : Byte × Flags) (s : State) : Answer :=
  done 4 (withFlags (withA (advance 1 s) r.1) (clearZ r).2)

/-- The cycles of a CB rotate or shift (R294). -/
def rotCycles (r : R8) : Nat := if r = .atHL then 16 else 8

/-- A CB rotate or shift of `r8[z]` (R294): the read comes before the write. -/
def cbRot (op : Byte → Byte × Flags) (r : R8) (s : State) : Answer :=
  let t := advance 2 s
  let x := op (rd8 t r)
  done (rotCycles r) (withFlags (wr8 t r x.1) x.2)

/-- 07: RLCA (R290). -/
def exec_rlca (s : State) : Answer := rotA (rlc8 s.cpu.a) s

/-- 0F: RRCA (R291). -/
def exec_rrca (s : State) : Answer := rotA (rrc8 s.cpu.a) s

/-- 17: RLA (R292). -/
def exec_rla (s : State) : Answer := rotA (rl8 s.cpu.a s.cpu.f.c) s

/-- 1F: RRA (R293). -/
def exec_rra (s : State) : Answer := rotA (rr8 s.cpu.a s.cpu.f.c) s

/-- CB00: RLC B (R295). -/
def exec_rlc_B (s : State) : Answer := cbRot rlc8 .b s

/-- CB01: RLC C (R295). -/
def exec_rlc_C (s : State) : Answer := cbRot rlc8 .c s

/-- CB02: RLC D (R295). -/
def exec_rlc_D (s : State) : Answer := cbRot rlc8 .d s

/-- CB03: RLC E (R295). -/
def exec_rlc_E (s : State) : Answer := cbRot rlc8 .e s

/-- CB04: RLC H (R295). -/
def exec_rlc_H (s : State) : Answer := cbRot rlc8 .h s

/-- CB05: RLC L (R295). -/
def exec_rlc_L (s : State) : Answer := cbRot rlc8 .l s

/-- CB06: RLC (HL) (R295). -/
def exec_rlc_atHL (s : State) : Answer := cbRot rlc8 .atHL s

/-- CB07: RLC A (R295). -/
def exec_rlc_A (s : State) : Answer := cbRot rlc8 .a s

/-- CB08: RRC B (R296). -/
def exec_rrc_B (s : State) : Answer := cbRot rrc8 .b s

/-- CB09: RRC C (R296). -/
def exec_rrc_C (s : State) : Answer := cbRot rrc8 .c s

/-- CB0A: RRC D (R296). -/
def exec_rrc_D (s : State) : Answer := cbRot rrc8 .d s

/-- CB0B: RRC E (R296). -/
def exec_rrc_E (s : State) : Answer := cbRot rrc8 .e s

/-- CB0C: RRC H (R296). -/
def exec_rrc_H (s : State) : Answer := cbRot rrc8 .h s

/-- CB0D: RRC L (R296). -/
def exec_rrc_L (s : State) : Answer := cbRot rrc8 .l s

/-- CB0E: RRC (HL) (R296). -/
def exec_rrc_atHL (s : State) : Answer := cbRot rrc8 .atHL s

/-- CB0F: RRC A (R296). -/
def exec_rrc_A (s : State) : Answer := cbRot rrc8 .a s

/-- CB10: RL B (R297). -/
def exec_rl_B (s : State) : Answer := cbRot (fun v => rl8 v s.cpu.f.c) .b s

/-- CB11: RL C (R297). -/
def exec_rl_C (s : State) : Answer := cbRot (fun v => rl8 v s.cpu.f.c) .c s

/-- CB12: RL D (R297). -/
def exec_rl_D (s : State) : Answer := cbRot (fun v => rl8 v s.cpu.f.c) .d s

/-- CB13: RL E (R297). -/
def exec_rl_E (s : State) : Answer := cbRot (fun v => rl8 v s.cpu.f.c) .e s

/-- CB14: RL H (R297). -/
def exec_rl_H (s : State) : Answer := cbRot (fun v => rl8 v s.cpu.f.c) .h s

/-- CB15: RL L (R297). -/
def exec_rl_L (s : State) : Answer := cbRot (fun v => rl8 v s.cpu.f.c) .l s

/-- CB16: RL (HL) (R297). -/
def exec_rl_atHL (s : State) : Answer := cbRot (fun v => rl8 v s.cpu.f.c) .atHL s

/-- CB17: RL A (R297). -/
def exec_rl_A (s : State) : Answer := cbRot (fun v => rl8 v s.cpu.f.c) .a s

/-- CB18: RR B (R298). -/
def exec_rr_B (s : State) : Answer := cbRot (fun v => rr8 v s.cpu.f.c) .b s

/-- CB19: RR C (R298). -/
def exec_rr_C (s : State) : Answer := cbRot (fun v => rr8 v s.cpu.f.c) .c s

/-- CB1A: RR D (R298). -/
def exec_rr_D (s : State) : Answer := cbRot (fun v => rr8 v s.cpu.f.c) .d s

/-- CB1B: RR E (R298). -/
def exec_rr_E (s : State) : Answer := cbRot (fun v => rr8 v s.cpu.f.c) .e s

/-- CB1C: RR H (R298). -/
def exec_rr_H (s : State) : Answer := cbRot (fun v => rr8 v s.cpu.f.c) .h s

/-- CB1D: RR L (R298). -/
def exec_rr_L (s : State) : Answer := cbRot (fun v => rr8 v s.cpu.f.c) .l s

/-- CB1E: RR (HL) (R298). -/
def exec_rr_atHL (s : State) : Answer := cbRot (fun v => rr8 v s.cpu.f.c) .atHL s

/-- CB1F: RR A (R298). -/
def exec_rr_A (s : State) : Answer := cbRot (fun v => rr8 v s.cpu.f.c) .a s

/-- CB20: SLA B (R299). -/
def exec_sla_B (s : State) : Answer := cbRot sla8 .b s

/-- CB21: SLA C (R299). -/
def exec_sla_C (s : State) : Answer := cbRot sla8 .c s

/-- CB22: SLA D (R299). -/
def exec_sla_D (s : State) : Answer := cbRot sla8 .d s

/-- CB23: SLA E (R299). -/
def exec_sla_E (s : State) : Answer := cbRot sla8 .e s

/-- CB24: SLA H (R299). -/
def exec_sla_H (s : State) : Answer := cbRot sla8 .h s

/-- CB25: SLA L (R299). -/
def exec_sla_L (s : State) : Answer := cbRot sla8 .l s

/-- CB26: SLA (HL) (R299). -/
def exec_sla_atHL (s : State) : Answer := cbRot sla8 .atHL s

/-- CB27: SLA A (R299). -/
def exec_sla_A (s : State) : Answer := cbRot sla8 .a s

/-- CB28: SRA B (R300). -/
def exec_sra_B (s : State) : Answer := cbRot sra8 .b s

/-- CB29: SRA C (R300). -/
def exec_sra_C (s : State) : Answer := cbRot sra8 .c s

/-- CB2A: SRA D (R300). -/
def exec_sra_D (s : State) : Answer := cbRot sra8 .d s

/-- CB2B: SRA E (R300). -/
def exec_sra_E (s : State) : Answer := cbRot sra8 .e s

/-- CB2C: SRA H (R300). -/
def exec_sra_H (s : State) : Answer := cbRot sra8 .h s

/-- CB2D: SRA L (R300). -/
def exec_sra_L (s : State) : Answer := cbRot sra8 .l s

/-- CB2E: SRA (HL) (R300). -/
def exec_sra_atHL (s : State) : Answer := cbRot sra8 .atHL s

/-- CB2F: SRA A (R300). -/
def exec_sra_A (s : State) : Answer := cbRot sra8 .a s

/-- CB30: SWAP B (R301). -/
def exec_swap_B (s : State) : Answer := cbRot swap8 .b s

/-- CB31: SWAP C (R301). -/
def exec_swap_C (s : State) : Answer := cbRot swap8 .c s

/-- CB32: SWAP D (R301). -/
def exec_swap_D (s : State) : Answer := cbRot swap8 .d s

/-- CB33: SWAP E (R301). -/
def exec_swap_E (s : State) : Answer := cbRot swap8 .e s

/-- CB34: SWAP H (R301). -/
def exec_swap_H (s : State) : Answer := cbRot swap8 .h s

/-- CB35: SWAP L (R301). -/
def exec_swap_L (s : State) : Answer := cbRot swap8 .l s

/-- CB36: SWAP (HL) (R301). -/
def exec_swap_atHL (s : State) : Answer := cbRot swap8 .atHL s

/-- CB37: SWAP A (R301). -/
def exec_swap_A (s : State) : Answer := cbRot swap8 .a s

/-- CB38: SRL B (R302). -/
def exec_srl_B (s : State) : Answer := cbRot srl8 .b s

/-- CB39: SRL C (R302). -/
def exec_srl_C (s : State) : Answer := cbRot srl8 .c s

/-- CB3A: SRL D (R302). -/
def exec_srl_D (s : State) : Answer := cbRot srl8 .d s

/-- CB3B: SRL E (R302). -/
def exec_srl_E (s : State) : Answer := cbRot srl8 .e s

/-- CB3C: SRL H (R302). -/
def exec_srl_H (s : State) : Answer := cbRot srl8 .h s

/-- CB3D: SRL L (R302). -/
def exec_srl_L (s : State) : Answer := cbRot srl8 .l s

/-- CB3E: SRL (HL) (R302). -/
def exec_srl_atHL (s : State) : Answer := cbRot srl8 .atHL s

/-- CB3F: SRL A (R302). -/
def exec_srl_A (s : State) : Answer := cbRot srl8 .a s

end Sys2Proof.Machine
end

