-- ==== Sys2Proof/Machine/System.lean ====
section
/-! DEFINITION. NOP, HALT, STOP, DI, EI and the undefined bytes (47_system.md). There is one privilege mode (R445), so no instruction checks one. -/
namespace Sys2Proof.Machine

/-- The operation of HALT (R351), on the state after its fetch. -/
def haltOp (t : State) : State :=
  if !t.cpu.ime && pending t != 0 then
    if t.cfg.haltBug then { t with cpu := { t.cpu with haltBug := true } } else t
  else { t with cpu := { t.cpu with halted := true } }

/-- The operation of STOP under `STOP_MODE = LOW_POWER` (R353), on the state after its fetch. -/
def stopOp (t : State) : State :=
  let u := resetDiv t
  { u with cpu := { u.cpu with stopped := true } }

/-- 00: NOP (R350). -/
def exec_nop (s : State) : Answer := done 4 (advance 1 s)

/-- 10: STOP under both values of `STOP_MODE` (R352, R353). -/
def exec_stop (x : Byte) (s : State) : Answer :=
  match s.cfg.stopMode with
  | .refuse => .next (refuseStop x s)
  | .lowPower => done 4 (stopOp (advance 2 s))

/-- 76: HALT (R351). -/
def exec_halt (s : State) : Answer := done 4 (haltOp (advance 1 s))

/-- An undefined opcode byte (R357, R440): the run ends with a fault, recorded in `status`; PC and everything else stay. -/
def exec_undefined (op : Byte) (s : State) : Answer := .next (raiseUndefined op s)

/-- F3: DI (R354). -/
def exec_di (s : State) : Answer :=
  let t := advance 1 s
  done 4 { t with cpu := { t.cpu with ime := false, imeDelay := false } }

/-- FB: EI (R355). -/
def exec_ei (s : State) : Answer :=
  let t := advance 1 s
  done 4 { t with cpu := { t.cpu with imeDelay := true } }

end Sys2Proof.Machine
end

