-- ==== Sys2Proof/WellFormed.lean ====
section
/-! DEFINITION. Well-formed instructions. No instruction has operand values that are illegal (30_encoding.md R186), and the
operand types admit exactly the values of their encodings, so the one check is on the constructor `undefined`: its byte
is one of the eleven undefined bytes of R183 (DESIGN CHOICE, log entry 10). -/
namespace Sys2Proof

/-- The eleven undefined bytes of R183. -/
def undefinedBytes : List Byte := [0xD3, 0xDB, 0xDD, 0xE3, 0xE4, 0xEB, 0xEC, 0xED, 0xF4, 0xFC, 0xFD]

/-- The well-formedness check. -/
def Instr.wf (i : Instr) : Bool :=
  match i with
  | .undefined op => undefinedBytes.contains op
  | _ => true

end Sys2Proof
end

