-- ==== Sys2Proof/Machine/Fetch.lean ====
section
/-! DEFINITION. Fetching an instruction's bytes (30_encoding.md R170, 60_exceptions.md R403) and placing an instruction
where the next fetch reads. -/
namespace Sys2Proof.Machine

/-- The address of the byte after the opcode byte: PC + 1, or PC itself when `halt_bug` makes the opcode fetch not
advance PC (R403). -/
def operandAddr (s : State) : Word := if s.cpu.haltBug then s.cpu.pc else s.cpu.pc + 1

/-- The three bytes of the instruction stream at PC: the opcode byte and the two that `fetch8` would read after it. Reads
have no side effect (R106), so reading more bytes than the instruction has changes nothing (DEDUCED, log entry 9). -/
def fetchBytes (s : State) : List Byte :=
  [memRead s s.cpu.pc, memRead s (operandAddr s), memRead s (operandAddr s + 1)]

/-- The instruction the next fetch reads. -/
def fetchInstr (s : State) : Instr :=
  decodeAt (memRead s s.cpu.pc) (memRead s (operandAddr s)) (memRead s (operandAddr s + 1))

/-- Whether the byte that a fetch at `a` reads is a stored byte. -/
def holdsByte (s : State) (a : Word) : Bool :=
  match locate s a with
  | .cart _ | .vram _ | .xram _ | .wram _ | .oam _ | .hram _ | .ie => true
  | .io (.inert _) => true
  | _ => false

/-- Places byte `v` in the backing store that a fetch at `a` reads: the boot ROM, the bank of the cartridge image that is
visible there, or the RAM. The model's own operation: a load from outside, not a CPU store. -/
def placeByte (a : Word) (v : Byte) (s : State) : State :=
  match locate s a with
  | .cart n =>
    if n ≤ 0x00FF ∧ s.bootRomEnabled then { s with cfg := { s.cfg with bootRom := Store.write s.cfg.bootRom n v } }
    else
      let i := if n ≤ 0x3FFF then (lowBank s.bank % s.cfg.romBanks) * 0x4000 + n
        else (highBank s.bank % s.cfg.romBanks) * 0x4000 + (n - 0x4000)
      { s with cfg := { s.cfg with rom := Store.write s.cfg.rom i v } }
  | .vram i => { s with vram := Store.write s.vram i v }
  | .xram i => { s with xram := Store.write s.xram i v }
  | .wram i => { s with wram := Store.write s.wram i v }
  | .oam i => { s with oam := Store.write s.oam i v }
  | .hram i => { s with hram := Store.write s.hram i v }
  | .ie => { s with intr := { s.intr with ie := v } }
  | .io (.inert k) => { s with io := Store.write s.io k v }
  | _ => s

/-- Places up to three bytes from address `a` on. -/
def placeBytes : Word → List Byte → State → State
  | _, [], s => s
  | a, v :: rest, s => placeBytes (a + 1) rest (placeByte a v s)

/-- A state whose next step fetches at PC: running, not halted, not stopped, no HALT bug, and, where an enabled request is
pending, IME clear so that no dispatch comes first. -/
def readyToFetch (s : State) : State :=
  { s with
    status := .running,
    cpu := { s.cpu with halted := false, stopped := false, haltBug := false,
                        ime := s.cpu.ime && pending s == 0 } }

/-- Stores the bytes `bs` where the next step fetches its instruction: at PC, or, where a byte there cannot be stored (a
register with no storage of its own, the unusable region, RAM that is switched off), at 0xC000 in work RAM with PC moved
there. -/
def placeInstr (bs : List Byte) (s : State) : State :=
  let pc := s.cpu.pc
  let fits := holdsByte s pc && holdsByte s (pc + 1) && holdsByte s (pc + 2)
  if fits then readyToFetch (placeBytes pc bs s)
  else readyToFetch (placeBytes 0xC000 bs (withPc s 0xC000))

end Sys2Proof.Machine
end

