-- ==== Sys2Proof/Machine/Step.lean ====
section
/-! DEFINITION. The step of the machine: one orchestrator step (60_exceptions.md R400), a CPU step (R402) and then the
advance of Timer and PPU by the cycles it returned. -/
namespace Sys2Proof.Machine

/-- A CPU step of a CPU that is neither stopped nor halted (R402): a dispatch, or the instruction at PC. -/
def runCpu (s : State) : Host.Outcome State Fault Refusal :=
  match interruptTaken s with
  | some (k, vec) => .next (advanceDevices (dispatch k vec s))
  | none => finishStep s.cpu.imeDelay (exec (fetchInstr s) s)

/-- A step of a CPU that is not stopped: halted steps cost 4 cycles (R401). -/
def runAwake (s : State) : Host.Outcome State Fault Refusal :=
  if staysHalted s then .next (advanceDevices (withCycles 4 s)) else runCpu (unhalt s)

/-- One orchestrator step. A stopped step costs 0 cycles (R401). Where the run has ended no step is enabled (R406): the
step stops with the reason that `status` records. -/
def step (s : State) : Host.Outcome State Fault Refusal :=
  match s.status with
  | .faulted op addr => .fault (.undefinedOpcode op addr)
  | .refused addr second => .refused (.stopRefused addr second)
  | .running =>
    if staysStopped s then .next (advanceDevices (withCycles 0 s)) else runAwake (unstop s)

/-- `s` with the instruction word `w` of `nbits` bits stored where the next step fetches (log entry 5). -/
def State.withFetchWord (s : State) (nbits w : Nat) : State := placeInstr (tableBytes nbits w) s

end Sys2Proof.Machine
end

