-- ==== Sys2Proof/Machine/Load.lean ====
section
/-! DEFINITION. Loading a cartridge before the first step: the validation of 70_reset_and_hazards.md R604 and the header
fields it lists. The loader itself is outside the core (00_scope.md R5b); the core receives the parsed values. -/
namespace Sys2Proof.Machine

/-- `MalformedCartridge(reason)` of R442 and R604: the run never starts. -/
inductive LoadError where
  /-- fewer than 32768 bytes -/
  | tooShort
  /-- not a multiple of 16384 bytes -/
  | notWholeBanks
  /-- the kind is not NONE, MBC1 or MBC3 -/
  | unknownKind
  /-- the external RAM size is not one of the listed sizes -/
  | badRamSize
deriving DecidableEq, Repr

/-- The controller kind of header byte 0x0147 (R604); `none` is an unrecognised type. -/
def cartKindOfHeader (v : Byte) : Option CartKind :=
  if v ∈ [0x00#8, 0x08, 0x09] then some .none
  else if v ∈ [0x01#8, 0x02, 0x03] then some .mbc1
  else if v ∈ [0x0F#8, 0x10, 0x11, 0x12, 0x13] then some .mbc3
  else none

/-- The ROM size of header byte 0x0148, for codes 0 to 8 (R604). -/
def romSizeOfHeader (v : Byte) : Option Nat := if v.toNat ≤ 8 then some (32768 <<< v.toNat) else none

/-- The RAM size of header byte 0x0149 (R604). -/
def ramSizeOfHeader (v : Byte) : Option Nat :=
  match v.toNat with
  | 0 => some 0
  | 1 => some 2048
  | 2 => some 8192
  | 3 => some 32768
  | 4 => some 131072
  | 5 => some 65536
  | _ => none

/-- The reason the load is refused, if there is one (R604); `kind` is `none` for an unrecognised header type. Which reason
is reported where several hold is a DESIGN CHOICE (log entry 12). -/
def loadProblem (cfg : Config) (kind : Option CartKind) : Option LoadError :=
  if cfg.romLen < 32768 then some .tooShort
  else if cfg.romLen % 16384 ≠ 0 then some .notWholeBanks
  else if kind = none then some .unknownKind
  else if ¬ legalRamSizes.contains cfg.ramSize then some .badRamSize
  else none

/-- Steps 1 to 5 of R600: validate, then reset. -/
def load (cfg : Config) (kind : Option CartKind) (w : InitDraw) : Except LoadError State :=
  match loadProblem cfg kind with
  | some e => .error e
  | none => .ok (State.resetWith cfg (kind.getD .none) w)

end Sys2Proof.Machine
end

