-- ==== Sys2Proof/Safety.lean ====
section
/-! DEFINITION. What counts as a legal state and a safe run: the ranges and the canonical forms that reset establishes and
every step keeps, and the states in which a run has not ended. -/
namespace Sys2Proof.Machine

/-- The run has not ended (R406). -/
def State.live (s : State) : Prop := s.status = .running

/-- Every backing store is in canonical form and inside its size (R101). -/
def State.storesOk (s : State) : Bool :=
  Store.wf s.vram && Store.below 0x2000 s.vram && Store.wf s.wram && Store.below 0x2000 s.wram
    && Store.wf s.oam && Store.below 160 s.oam && Store.wf s.hram && Store.below 127 s.hram
    && Store.wf s.xram && Store.below s.cfg.ramSize s.xram && Store.wf s.io && Store.below 0x80 s.io
    && Store.wf s.ppu.fb && Store.below 23040 s.ppu.fb

/-- The parameters are ones that a load accepts (R8, R604), their images in canonical form. -/
def Config.ok (c : Config) : Bool :=
  decide (32768 ≤ c.romLen) && c.romLen % 16384 == 0 && legalRamSizes.contains c.ramSize
    && Store.wf c.bootRom && Store.below 256 c.bootRom && Store.wf c.rom && Store.below c.romLen c.rom

/-- The mode that a scanline and a dot determine while the LCD is on (R471, R474). -/
def modeAt (ly dot : Nat) : PpuMode :=
  if 144 ≤ ly then .vBlank else if dot < 80 then .oamScan else if dot < 252 then .pixelTransfer else .hBlank

/-- The scanline state machine is in a state of R471: line and dot in range and the mode theirs while the LCD is on; all
three at rest while it is off (R473). -/
def ppuOk (p : Ppu) : Bool :=
  if lcdOn p then decide (p.ly < 154) && decide (p.dot < 456) && p.mode == modeAt p.ly p.dot
  else p.ly == 0 && p.dot == 0 && p.mode == .hBlank

/-- The low-power and HALT-bug states are entered only under the parameters that allow them (R351, R353). -/
def controlOk (s : State) : Bool :=
  (!s.cpu.stopped || s.cfg.stopMode == .lowPower) && (!s.cpu.haltBug || s.cfg.haltBug)

/-- The invariant of the machine: legal parameters, canonical stores, a legal PPU, legal control state. -/
def State.ok (s : State) : Bool := s.storesOk && Config.ok s.cfg && ppuOk s.ppu && controlOk s

end Sys2Proof.Machine
end

