-- ==== Sys2Proof/Certificates/Slice0/Obligations.lean ====
section
/-! DEFINITION. The statements for the provers. An instruction is named by its encoding where a rule gives one encoding to
several instructions: `decodeAt b0 b1 b2` is the instruction at three bytes of the instruction stream, and the fields of
`b0` (R173) run over the operand tables R174 to R177. The docstring of such a statement lists the constructors it covers.
The equations give the whole next state, so each is the instruction's result, its completion and its frame at once. -/
namespace Sys2Proof.Certificates
open Sys2Proof.Machine

/-- The number of an operand in the table `r8[n]` (R174). -/
def code8 : R8 → Nat
  | .b => 0
  | .c => 1
  | .d => 2
  | .e => 3
  | .h => 4
  | .l => 5
  | .atHL => 6
  | .a => 7

/-- The number of a pair in `rp[p]` (R175: BC, DE, HL, SP) and in `rp2[p]` (R176: BC, DE, HL, AF). -/
def codePair : Pair → Nat
  | .bc => 0
  | .de => 1
  | .hl => 2
  | .sp => 3
  | .af => 3

/-- The number of a condition in `cc[k]` (R177). -/
def codeCond : Cond → Nat
  | .nz => 0
  | .z => 1
  | .nc => 2
  | .c => 3

/-- The `n`-th operand of the table `r8[n]` (R174), on numbers below 8. -/
def r8At (n : Nat) : R8 := [R8.b, .c, .d, .e, .h, .l, .atHL, .a].getD n .a

/-- A byte given as a number. -/
def byte (n : Nat) : Byte := BitVec.ofNat 8 n

/-- The registers of a pair, high first (R31); SP is no pair of 8-bit registers. -/
def regsOf : Pair → List R8
  | .bc => [.b, .c]
  | .de => [.d, .e]
  | .hl => [.h, .l]
  | .sp => []
  | .af => [.a]

/-- The flags of the two SP + e8 sums (R233, R281): H and C are the carries out of bits 3 and 7 of the unsigned sum of the
low byte of SP and the byte e. -/
def spFlags (sp : Word) (e : Byte) : Flags :=
  { z := false, n := false, h := decide (15 < sp.toNat % 16 + e.toNat % 16), c := decide (255 < sp.toNat % 256 + e.toNat) }

/-- What an address is decoded to is plain storage: the byte written is read back and no other register or byte reads
differently for it (the RAM arrays, IE, and the registers with neither fixed bits nor an effect). -/
def plain : Target → Bool
  | .vram _ | .xram _ | .wram _ | .oam _ | .hram _ | .ie => true
  | .io .sb | .io .sc | .io .tima | .io .tma | .io .scy | .io .scx | .io .bgp | .io .obp0 | .io .obp1 | .io .wy | .io .wx => true
  | .io (.inert _) => true
  | _ => false

/-- A write to such a target changes at most what is read at that target: plain storage, the windows that discard writes,
and the registers IF, STAT and LY, which do not store all eight bits. -/
def isolated : Target → Bool
  | .xramOff | .rtc | .unusable => true
  | .io .irq | .io .stat | .io .ly => true
  | t => plain t

/-- The three forms of R250 of the accumulator operation `alu[y]`: the register forms, the (HL) form and the immediate
form. `f a v c` is the result as a number and the flags, from A, the operand and the carry flag as numbers. -/
def AccRule (y : Nat) (f : Nat → Nat → Nat → Nat × Flags) : Prop :=
  ∀ (s : State) (b1 b2 : Byte),
    (∀ r : R8,
      let x := f s.cpu.a.toNat (rd8 s r).toNat (bitNat s.cpu.f.c)
      exec (decodeAt (byte (0x80 + 8 * y + code8 r)) b1 b2) s
        = .next (withCycles (if r = .atHL then 8 else 4) (withFlags (withA (advance 1 s) (byte x.1)) x.2)))
    ∧ (let x := f s.cpu.a.toNat b1.toNat (bitNat s.cpu.f.c)
       exec (decodeAt (byte (0xC6 + 8 * y)) b1 b2) s
        = .next (withCycles 8 (withFlags (withA (advance 2 s) (byte x.1)) x.2)))

/-- R263 on numbers: the adjusted A and the carry. -/
def daaNat (n h c : Bool) (a : Nat) : Nat × Bool :=
  if n then (a + 512 - (if c then 0x60 else 0) - (if h then 0x06 else 0), c)
  else
    let c' := c || decide (0x99 < a)
    (a + (if c' then 0x60 else 0) + (if h || decide (0x09 < a % 16) then 0x06 else 0), c')

/-- The byte that holds the two decimal digits of `x`. -/
def bcd (x : Nat) : Byte := byte (x / 10 * 16 + x % 10)

/-- R294 for the CB rotate `rot[y]`: `f v k` is the result as a number and the bit shifted out, from the operand and the
carry flag as numbers. -/
def RotRule (y : Nat) (f : Nat → Nat → Nat × Bool) : Prop :=
  ∀ (s : State) (r : R8) (b2 : Byte),
    let x := f (rd8 s r).toNat (bitNat s.cpu.f.c)
    exec (decodeAt 0xCB (byte (8 * y + code8 r)) b2) s
      = .next (withCycles (if r = .atHL then 16 else 8) (withFlags (wr8 (advance 2 s) r (byte x.1))
          { z := decide (x.1 % 256 = 0), n := false, h := false, c := x.2 }))

/-- The condition of R320 on the flags. -/
def condition : Cond → Flags → Prop
  | .nz, f => f.z = false
  | .z, f => f.z = true
  | .nc, f => f.c = false
  | .c, f => f.c = true

/-- The target of a relative jump: the signed displacement from the address after it, modulo 0x10000 (R324). -/
def relative (s : State) (e : Byte) : Word := BitVec.ofInt 16 ((advance 2 s).cpu.pc.toNat + e.toInt)

/-- A call to `target` by an instruction of `len` bytes: the address after it pushed, high byte first, then PC written. -/
def called (len : Nat) (target : Word) (s : State) : State :=
  let ret := (advance len s).cpu.pc
  withPc (withSp (memWrite (memWrite (advance len s) (s.cpu.sp - 1) (hiByte ret)) (s.cpu.sp - 2) (loByte ret))
    (s.cpu.sp - 2)) target

/-- A return: PC popped, low byte first, SP raised by 2. -/
def returned (s : State) : State :=
  withPc (withSp (advance 1 s) (s.cpu.sp + 2)) (mk16 (memRead s (s.cpu.sp + 1)) (memRead s s.cpu.sp))

/-- A place of the memory map: what a read of address `a` answers, and the state that a write of `v` there leaves. -/
def reads (s : State) (a : Word) (v read : Byte) (written : State) : Prop := memRead s a = read ∧ memWrite s a v = written

/-- The number of a PPU mode (R61, R76). -/
def modeNumber : PpuMode → Byte
  | .hBlank => 0
  | .vBlank => 1
  | .oamScan => 2
  | .pixelTransfer => 3

/-- The decoder of R110 and R111 outside the cartridge windows and the I/O page, range by range (echo R113, unusable R114,
IE R72). -/
def MemoryMap (s : State) (a : Word) (v : Byte) : Prop :=
  let n := a.toNat
  (0x8000 ≤ n → n ≤ 0x9FFF →
      reads s a v (Store.read s.vram (n - 0x8000)) { s with vram := Store.write s.vram (n - 0x8000) v })
  ∧ (0xC000 ≤ n → n ≤ 0xDFFF →
      reads s a v (Store.read s.wram (n - 0xC000)) { s with wram := Store.write s.wram (n - 0xC000) v })
  ∧ (0xE000 ≤ n → n ≤ 0xFDFF →
      reads s a v (Store.read s.wram (n - 0xE000)) { s with wram := Store.write s.wram (n - 0xE000) v })
  ∧ (0xFE00 ≤ n → n ≤ 0xFE9F →
      reads s a v (Store.read s.oam (n - 0xFE00)) { s with oam := Store.write s.oam (n - 0xFE00) v })
  ∧ (0xFEA0 ≤ n → n ≤ 0xFEFF → reads s a v s.cfg.unusableRead s)
  ∧ (0xFF80 ≤ n → n ≤ 0xFFFE →
      reads s a v (Store.read s.hram (n - 0xFF80)) { s with hram := Store.write s.hram (n - 0xFF80) v })
  ∧ (n = 0xFFFF → reads s a v s.intr.ie { s with intr := { s.intr with ie := v } })

/-- The registers of the I/O page with bits of their own or an effect (R51, R54, R57, R58, R60, R61, R63, R65, R70): the read
value, and what a write stores. The effects of a write on other state (joypad request, timer edge, LCD switch, OAM copy)
have statements of their own. -/
def SpecialRegisters (s : State) (v : Byte) : Prop :=
  (memRead s 0xFF00 = 0xC0 ||| (bitByte s.joy.p15 <<< 5) ||| (bitByte s.joy.p14 <<< 4)
      ||| (0x0F &&& ~~~(if s.joy.p14 then 0 else s.joy.dirs.setWidth 8) &&& ~~~(if s.joy.p15 then 0 else s.joy.acts.setWidth 8))
    ∧ (memWrite s 0xFF00 v).joy = { s.joy with p15 := v.getLsbD 5, p14 := v.getLsbD 4 })
  ∧ (memRead s 0xFF04 = byte (s.timer.div.toNat / 256) ∧ (memWrite s 0xFF04 v).timer.div = 0)
  ∧ (memRead s 0xFF07 = 0xF8 ||| s.timer.tac.setWidth 8 ∧ (memWrite s 0xFF07 v).timer.tac = BitVec.ofNat 3 v.toNat)
  ∧ reads s 0xFF0F v (0xE0 ||| s.intr.req.setWidth 8) { s with intr := { s.intr with req := BitVec.ofNat 5 v.toNat } }
  ∧ (memRead s 0xFF40 = s.ppu.lcdc ∧ (memWrite s 0xFF40 v).ppu.lcdc = v)
  ∧ reads s 0xFF41 v
      (0x80 ||| (s.ppu.stat.setWidth 8 <<< 3) ||| (if s.ppu.ly = s.ppu.lyc.toNat then 0x04 else 0) ||| modeNumber s.ppu.mode)
      { s with ppu := { s.ppu with stat := BitVec.ofNat 4 (v.toNat / 8) } }
  ∧ reads s 0xFF44 v (byte s.ppu.ly) s
  ∧ (ppuOk s.ppu = true → lcdOn s.ppu = false → memRead s 0xFF44 = 0 ∧ memRead s 0xFF41 &&& 3 = 0)
  ∧ (memRead s 0xFF46 = s.ppu.dma ∧ (memWrite s 0xFF46 v).ppu = { s.ppu with dma := v })
  ∧ reads s 0xFF50 v 0xFF { s with bootRomEnabled := false }

/-- The registers of the I/O page that are storage (R52, R53, R55, R56, R59, R62, R64, R66 to R68, R71): the byte read, and
the state a write leaves. -/
def StorageRegisters (s : State) (v : Byte) : Prop :=
  reads s 0xFF01 v s.serial.sb { s with serial := { s.serial with sb := v } }
  ∧ reads s 0xFF02 v s.serial.sc { s with serial := { s.serial with sc := v } }
  ∧ reads s 0xFF05 v s.timer.tima { s with timer := { s.timer with tima := v } }
  ∧ reads s 0xFF06 v s.timer.tma { s with timer := { s.timer with tma := v } }
  ∧ reads s 0xFF42 v s.ppu.scy { s with ppu := { s.ppu with scy := v } }
  ∧ reads s 0xFF43 v s.ppu.scx { s with ppu := { s.ppu with scx := v } }
  ∧ reads s 0xFF45 v s.ppu.lyc { s with ppu := { s.ppu with lyc := v } }
  ∧ reads s 0xFF47 v s.ppu.bgp { s with ppu := { s.ppu with bgp := v } }
  ∧ reads s 0xFF48 v s.ppu.obp0 { s with ppu := { s.ppu with obp0 := v } }
  ∧ reads s 0xFF49 v s.ppu.obp1 { s with ppu := { s.ppu with obp1 := v } }
  ∧ reads s 0xFF4A v s.ppu.wy { s with ppu := { s.ppu with wy := v } }
  ∧ reads s 0xFF4B v s.ppu.wx { s with ppu := { s.ppu with wx := v } }
  ∧ ∀ k, (k = 0x03 ∨ (0x08 ≤ k ∧ k ≤ 0x0E) ∨ (0x10 ≤ k ∧ k ≤ 0x3F) ∨ (0x4C ≤ k ∧ k ≤ 0x4F) ∨ (0x51 ≤ k ∧ k ≤ 0x7F)) →
      reads s (BitVec.ofNat 16 (0xFF00 + k)) v (Store.read s.io k) { s with io := Store.write s.io k v }

/-- Some enabled interrupt is requested: `IE & IF & 0x1F` is not 0, bit by bit (R351, R402). -/
def somePending (s : State) : Prop := ∃ k < 5, s.intr.req.getLsbD k = true ∧ s.intr.ie.getLsbD k = true

/-- The wake condition of HALT under each value of `HALT_WAKE` (R402). -/
def wakeCondition (s : State) : Prop :=
  match s.cfg.haltWake with
  | .enabledRequest => somePending s
  | .anyRequest => ∃ k < 5, s.intr.req.getLsbD k = true

/-- A flag column of R187. -/
inductive FlagCol where
  /-- `-`, unchanged -/
  | keep
  /-- `0` or `1` written -/
  | const (b : Bool)
  /-- a letter: computed -/
  | computed
deriving DecidableEq, Repr

/-- The column holds of a flag before and after. -/
def FlagCol.allows : FlagCol → Bool → Bool → Prop
  | .keep, before, after => after = before
  | .const b, _, after => after = b
  | .computed, _, _ => True

/-- A row of R187: cycles taken and not taken, and the four flag columns. -/
structure TableRow where
  taken : Nat
  notTaken : Nat
  z : FlagCol
  n : FlagCol
  h : FlagCol
  c : FlagCol
deriving DecidableEq, Repr

/-- A row `- - - -`. -/
def plainRow (cycles : Nat) : TableRow := ⟨cycles, cycles, .keep, .keep, .keep, .keep⟩

/-- A conditional row `- - - -`. -/
def condRow (taken notTaken : Nat) : TableRow := ⟨taken, notTaken, .keep, .keep, .keep, .keep⟩

/-- A row with flag columns. -/
def flagRow (cycles : Nat) (z n h c : FlagCol) : TableRow := ⟨cycles, cycles, z, n, h, c⟩

/-- Cycles of a row whose operand `r8[k]` is number 6, (HL), or another. -/
def byOperand (k atHL other : Nat) : Nat := if k = 6 then atHL else other

/-- The rows of R187 by opcode byte, as the printed table groups them; the CB lead byte, STOP and the undefined bytes have
rows of their own in other rules. -/
def tableRow (op : Nat) : TableRow :=
  let y := op / 8 % 8
  let z := op % 8
  if op = 0x00 ∨ op = 0x76 ∨ op = 0xF3 ∨ op = 0xFB ∨ op = 0xE9 then plainRow 4
  else if op = 0x08 then plainRow 20
  else if op = 0x18 then plainRow 12
  else if op < 0x40 ∧ z = 0 then condRow 12 8
  else if op < 0x40 ∧ z = 1 then
    if y % 2 = 0 then plainRow 12 else flagRow 8 .keep (.const false) .computed .computed
  else if op < 0x40 ∧ (z = 2 ∨ z = 3) then plainRow 8
  else if op < 0x40 ∧ z = 4 then flagRow (byOperand y 12 4) .computed (.const false) .computed .keep
  else if op < 0x40 ∧ z = 5 then flagRow (byOperand y 12 4) .computed (.const true) .computed .keep
  else if op < 0x40 ∧ z = 6 then plainRow (byOperand y 12 8)
  else if op < 0x20 then flagRow 4 (.const false) (.const false) (.const false) .computed
  else if op = 0x27 then flagRow 4 .computed .keep (.const false) .computed
  else if op = 0x2F then flagRow 4 .keep (.const true) (.const true) .keep
  else if op = 0x37 then flagRow 4 .keep (.const false) (.const false) (.const true)
  else if op = 0x3F then flagRow 4 .keep (.const false) (.const false) .computed
  else if op < 0x80 then plainRow (if y = 6 ∨ z = 6 then 8 else 4)
  else if op < 0xC0 ∨ z = 6 then
    let cycles := if 0xC0 ≤ op ∨ z = 6 then 8 else 4
    if y = 0 ∨ y = 1 then flagRow cycles .computed (.const false) .computed .computed
    else if y = 4 then flagRow cycles .computed (.const false) (.const true) (.const false)
    else if y = 5 ∨ y = 6 then flagRow cycles .computed (.const false) (.const false) (.const false)
    else flagRow cycles .computed (.const true) .computed .computed
  else if op = 0xE0 ∨ op = 0xF0 then plainRow 12
  else if op = 0xE8 then flagRow 16 (.const false) (.const false) .computed .computed
  else if op = 0xF8 then flagRow 12 (.const false) (.const false) .computed .computed
  else if op = 0xF1 then flagRow 12 .computed .computed .computed .computed
  else if op = 0xC1 ∨ op = 0xD1 ∨ op = 0xE1 then plainRow 12
  else if op = 0xC3 ∨ op = 0xC9 ∨ op = 0xD9 ∨ op = 0xEA ∨ op = 0xFA then plainRow 16
  else if op = 0xCD then plainRow 24
  else if op = 0xE2 ∨ op = 0xF2 ∨ op = 0xF9 then plainRow 8
  else if z = 0 then condRow 20 8
  else if z = 2 then condRow 16 12
  else if z = 4 then condRow 24 12
  else plainRow 16

/-- The condition `cc` that the field `y` of a conditional instruction selects (R177). -/
def condAt (op : Nat) : Cond := [Cond.nz, .z, .nc, .c].getD (op / 8 % 4) .nz

/-- The addresses that an instruction stores to, from the state before it (R105). -/
def storedAt (b0 b1 b2 : Byte) (s : State) : List Word :=
  let op := b0.toNat
  let z := op % 8
  let hl := pair s .hl
  let stack := [s.cpu.sp - 1, s.cpu.sp - 2]
  if op = 0xCB then if b1.toNat % 8 = 6 ∧ b1.toNat / 64 ≠ 1 then [hl] else []
  else if op = 0x02 then [pair s .bc]
  else if op = 0x12 then [pair s .de]
  else if op = 0x08 then [mk16 b2 b1, mk16 b2 b1 + 1]
  else if op = 0x22 ∨ op = 0x32 ∨ op = 0x34 ∨ op = 0x35 ∨ op = 0x36 then [hl]
  else if 0x70 ≤ op ∧ op < 0x78 ∧ op ≠ 0x76 then [hl]
  else if op = 0xEA then [mk16 b2 b1]
  else if op = 0xE0 then [mk16 0xFF b1]
  else if op = 0xE2 then [mk16 0xFF s.cpu.c]
  else if op = 0xC5 ∨ op = 0xD5 ∨ op = 0xE5 ∨ op = 0xF5 ∨ op = 0xCD then stack
  else if 0xC0 ≤ op ∧ z = 7 then stack
  else if 0xC0 ≤ op ∧ op < 0xE0 ∧ z = 4 ∧ (condAt op).holds s.cpu.f then stack
  else []

/-- The 8-bit registers that an instruction writes, from its bytes (R32). -/
def writtenRegs (b0 b1 : Byte) : List R8 :=
  let op := b0.toNat
  let y := op / 8 % 8
  let z := op % 8
  let rr := [[R8.b, .c], [.d, .e], [.h, .l], []].getD (op / 16 % 4) []
  if op = 0xCB then if b1.toNat / 64 = 1 then [] else [r8At (b1.toNat % 8)]
  else if op < 0x40 then
    if z = 1 then if y % 2 = 0 then rr else [.h, .l]
    else if z = 2 then (if y % 2 = 1 then [.a] else []) ++ (if 4 ≤ y then [.h, .l] else [])
    else if z = 3 then rr
    else if z = 4 ∨ z = 5 ∨ z = 6 then [r8At y]
    else if z = 7 then if y < 6 then [.a] else []
    else []
  else if op < 0x80 then [r8At y]
  else if op < 0xC0 ∨ z = 6 then if y = 7 then [] else [.a]
  else if op = 0xC1 ∨ op = 0xD1 ∨ op = 0xE1 then rr
  else if op = 0xF1 ∨ op = 0xF0 ∨ op = 0xF2 ∨ op = 0xFA then [.a]
  else if op = 0xF8 then [.h, .l]
  else []

/-- Whether an instruction may write SP (R32). -/
def writesSp (b0 : Byte) : Bool :=
  let op := b0.toNat
  decide (op = 0x31 ∨ op = 0x33 ∨ op = 0x3B ∨ op = 0xE8 ∨ op = 0xF9)
    || decide (0xC0 ≤ op ∧ (op % 8 = 0 ∧ op < 0xE0 ∨ op % 16 = 1 ∨ op % 16 = 5 ∨ op = 0xC9 ∨ op = 0xD9 ∨ op = 0xCD
      ∨ op % 8 = 4 ∨ op % 8 = 7))

/-- The cycles per TIMA tick of a clock select (R57). -/
def timerPeriod (sel : BitVec 2) : Nat := if sel = 0 then 1024 else if sel = 1 then 16 else if sel = 2 then 64 else 256

/-- The number of entries into line 144 in `n` dots. -/
def vBlankEntries : Nat → State → Nat
  | 0, _ => 0
  | n + 1, s =>
    (if s.ppu.ly ≠ 144 ∧ (ppuTick s).ppu.ly = 144 then 1 else 0) + vBlankEntries n (ppuTick s)

end Sys2Proof.Certificates

open Sys2Proof Sys2Proof.Machine Sys2Proof.Certificates

/-! ### Encoding -/

/-- R181, R182, R183: decoding the bytes of a well-formed instruction gives it back, with every operand at every value,
and leaves the bytes after it. -/
def Obligations.DecodeOfEncode : Prop :=
  ∀ (i : Instr) (rest : List Byte), i.wf = true → decode (encode i ++ rest) = .ok (i, rest)

/-- The other direction: a byte string has one meaning, and its bytes are the ones the encoder writes for it. -/
def Obligations.EncodeOfDecode : Prop :=
  ∀ (bs : List Byte) (i : Instr) (rest : List Byte),
    decode bs = .ok (i, rest) → encode i ++ rest = bs ∧ i.wf = true

/-- R171, R183, R186: the first byte fixes the length; three bytes always hold an instruction, after CB whatever the second
byte is; it is the undefined one exactly when the first byte is one of the eleven. R171 lists no length for those eleven:
that the final `else` gives them 1 is the decoder's own convention (log entry 18). -/
def Obligations.DecodingByFirstByte : Prop :=
  (∀ b : Byte, lengthOf b =
    if [0x01#8, 0x08, 0x11, 0x21, 0x31, 0xC2, 0xC3, 0xC4, 0xCA, 0xCC, 0xCD, 0xD2, 0xD4, 0xDA, 0xDC, 0xEA, 0xFA].contains b
    then 3
    else if [0x06#8, 0x0E, 0x10, 0x16, 0x18, 0x1E, 0x20, 0x26, 0x28, 0x2E, 0x30, 0x36, 0x38, 0x3E, 0xC6, 0xCB, 0xCE, 0xD6,
      0xDE, 0xE0, 0xE6, 0xE8, 0xEE, 0xF0, 0xF6, 0xF8, 0xFE].contains b then 2
    else 1)
  ∧ (∀ b0 b1 b2 : Byte, decode [b0, b1, b2] = .ok (decodeAt b0 b1 b2, [b0, b1, b2].drop (lengthOf b0)))
  ∧ (∀ b0 b1 b2 op : Byte, decodeAt b0 b1 b2 = .undefined op ↔ (op = b0 ∧ undefinedBytes.contains b0 = true))

/-- A few words of the spec, one of each format of R172 (R201, R211, R230, R259, R297, R325, R326, R185), and an undefined
byte (R183, R357). The last clause, that a list which ends inside an instruction is refused by name, is the decoder's own
convention, not a rule (log entry 18). -/
def Obligations.SpecWordsDecode : Prop :=
  decode [0x3C] = .ok (.inc_A, []) ∧ decode [0x3E, 0x5A] = .ok (.ld_A_d8 0x5A, [])
  ∧ decode [0xF0, 0x44] = .ok (.ldh_A_at_a8 0x44, []) ∧ decode [0x31, 0xFE, 0xFF] = .ok (.ld_SP_d16 0xFFFE, [])
  ∧ decode [0xCB, 0x15] = .ok (.rl_L, []) ∧ decode [0x20, 0xFB] = .ok (.jr_NZ_e8 0xFB, [])
  ∧ decode [0xCD, 0x00, 0x02] = .ok (.call_a16 0x0200, []) ∧ decode [0x10, 0x00] = .ok (.stop 0x00, [])
  ∧ decode [0xDB] = .ok (.undefined 0xDB, []) ∧ decode [0xCD, 0x00] = .error (.truncated 0xCD)

/-! ### Registers -/

/-- R30, R31, R33: the seven registers of the table R174 are separate (a write is read back and leaves the other six, F, SP
and PC); a pair reads its high register first, and writing it and reading it back round-trips, except AF whose low nibble
reads zero; F holds Z N H C in bits 7 to 4. -/
def Obligations.RegistersAndPairs : Prop :=
  (∀ (s : State) (r q : R8) (v : Byte), r ≠ .atHL → q ≠ .atHL →
    rd8 (wr8 s r v) r = v ∧ (q ≠ r → rd8 (wr8 s r v) q = rd8 s q)
    ∧ wr8 s r v = { s with cpu := (wr8 s r v).cpu }
    ∧ (wr8 s r v).cpu.f = s.cpu.f ∧ (wr8 s r v).cpu.sp = s.cpu.sp ∧ (wr8 s r v).cpu.pc = s.cpu.pc)
  ∧ (∀ (c : Cpu) (p : Pair) (v : Word), getPair (setPair c p v) p = if p = .af then v &&& 0xFFF0 else v)
  ∧ (∀ (s : State) (p : Pair) (v : Word) (r : R8), r ≠ .atHL → r ∉ regsOf p → rd8 (withPair s p v) r = rd8 s r)
  ∧ (∀ (s : State) (p : Pair) (v : Word),
      (p ≠ .sp → (withPair s p v).cpu.sp = s.cpu.sp) ∧ (p ≠ .af → (withPair s p v).cpu.f = s.cpu.f)
      ∧ (withPair s p v).cpu.pc = s.cpu.pc ∧ (withPair s p v).cpu.ime = s.cpu.ime)
  ∧ (∀ c : Cpu, getPair c .bc = mk16 c.b c.c ∧ getPair c .de = mk16 c.d c.e ∧ getPair c .hl = mk16 c.h c.l
      ∧ getPair c .af = mk16 c.a c.f.toByte)
  ∧ (∀ f : Flags, f.toByte.getLsbD 7 = f.z ∧ f.toByte.getLsbD 6 = f.n ∧ f.toByte.getLsbD 5 = f.h ∧ f.toByte.getLsbD 4 = f.c
    ∧ f.toByte &&& 0x0F = 0)
  ∧ (∀ v : Byte, (Flags.ofByte v).toByte = v &&& 0xF0)

/-! ### Loads -/

/-- R200 (constructors ld_r_r' for r, r' in B C D E H L A) and R201 (ld_r_d8). -/
def Obligations.LoadRegisterForms : Prop :=
  (∀ (s : State) (y z : R8) (b1 b2 : Byte), y ≠ .atHL → z ≠ .atHL →
    exec (decodeAt (byte (0x40 + 8 * code8 y + code8 z)) b1 b2) s
      = .next (withCycles 4 (wr8 (advance 1 s) y (rd8 s z))))
  ∧ (∀ (s : State) (y : R8) (n b2 : Byte), y ≠ .atHL →
    exec (decodeAt (byte (0x06 + 8 * code8 y)) n b2) s = .next (withCycles 8 (wr8 (advance 2 s) y n)))

/-- R202 (ld_r_atHL), R203 (ld_atHL_r for r in B C D E H L A) and R204 (ld_atHL_d8): the address is HL as it stands before
the instruction. -/
def Obligations.LoadAndStoreAtHL : Prop :=
  (∀ (s : State) (y : R8) (b1 b2 : Byte), y ≠ .atHL →
    exec (decodeAt (byte (0x46 + 8 * code8 y)) b1 b2) s
      = .next (withCycles 8 (wr8 (advance 1 s) y (memRead s (mk16 s.cpu.h s.cpu.l)))))
  ∧ (∀ (s : State) (z : R8) (b1 b2 : Byte), z ≠ .atHL →
    exec (decodeAt (byte (0x70 + code8 z)) b1 b2) s
      = .next (withCycles 8 (memWrite (advance 1 s) (mk16 s.cpu.h s.cpu.l) (rd8 s z))))
  ∧ (∀ (s : State) (n : Byte),
    exec (.ld_atHL_d8 n) s = .next (withCycles 12 (memWrite (advance 2 s) (mk16 s.cpu.h s.cpu.l) n)))

/-- R205 to R214: the loads of A (ld_A_atBC, ld_A_atDE, ld_A_at_a16, ldh_A_at_a8, ld_A_atC) and the stores of A (ld_atBC_A,
ld_atDE_A, ld_at_a16_A, ldh_at_a8_A, ld_atC_A). -/
def Obligations.AccumulatorLoadsAndStores : Prop :=
  ∀ (s : State) (nn : Word) (n : Byte),
    exec .ld_A_atBC s = .next (withCycles 8 (withA (advance 1 s) (memRead s (mk16 s.cpu.b s.cpu.c))))
    ∧ exec .ld_A_atDE s = .next (withCycles 8 (withA (advance 1 s) (memRead s (mk16 s.cpu.d s.cpu.e))))
    ∧ exec (.ld_A_at_a16 nn) s = .next (withCycles 16 (withA (advance 3 s) (memRead s nn)))
    ∧ exec (.ldh_A_at_a8 n) s = .next (withCycles 12 (withA (advance 2 s) (memRead s (mk16 0xFF n))))
    ∧ exec .ld_A_atC s = .next (withCycles 8 (withA (advance 1 s) (memRead s (mk16 0xFF s.cpu.c))))
    ∧ exec .ld_atBC_A s = .next (withCycles 8 (memWrite (advance 1 s) (mk16 s.cpu.b s.cpu.c) s.cpu.a))
    ∧ exec .ld_atDE_A s = .next (withCycles 8 (memWrite (advance 1 s) (mk16 s.cpu.d s.cpu.e) s.cpu.a))
    ∧ exec (.ld_at_a16_A nn) s = .next (withCycles 16 (memWrite (advance 3 s) nn s.cpu.a))
    ∧ exec (.ldh_at_a8_A n) s = .next (withCycles 12 (memWrite (advance 2 s) (mk16 0xFF n) s.cpu.a))
    ∧ exec .ld_atC_A s = .next (withCycles 8 (memWrite (advance 1 s) (mk16 0xFF s.cpu.c) s.cpu.a))

/-- R215 to R218: the forms that step HL (ld_atHLinc_A, ld_atHLdec_A, ld_A_atHLinc, ld_A_atHLdec). The access uses the old
HL; HL wraps; no flag changes. -/
def Obligations.LoadAndStoreSteppingHL : Prop :=
  ∀ s : State,
    (let t := withPair (memWrite (advance 1 s) (pair s .hl) s.cpu.a) .hl (BitVec.ofNat 16 ((pair s .hl).toNat + 1))
     exec .ld_atHLinc_A s = .next (withCycles 8 t) ∧ t.cpu.f = s.cpu.f)
    ∧ (let t := withPair (memWrite (advance 1 s) (pair s .hl) s.cpu.a) .hl (BitVec.ofNat 16 ((pair s .hl).toNat + 65535))
       exec .ld_atHLdec_A s = .next (withCycles 8 t) ∧ t.cpu.f = s.cpu.f)
    ∧ (let t := withPair (withA (advance 1 s) (memRead s (pair s .hl))) .hl (BitVec.ofNat 16 ((pair s .hl).toNat + 1))
       exec .ld_A_atHLinc s = .next (withCycles 8 t) ∧ t.cpu.f = s.cpu.f)
    ∧ (let t := withPair (withA (advance 1 s) (memRead s (pair s .hl))) .hl (BitVec.ofNat 16 ((pair s .hl).toNat + 65535))
       exec .ld_A_atHLdec s = .next (withCycles 8 t) ∧ t.cpu.f = s.cpu.f)

/-- R230 (ld_BC_d16, ld_DE_d16, ld_HL_d16, ld_SP_d16), R231 (ld_at_a16_SP), R232 (ld_SP_HL). -/
def Obligations.LoadWordForms : Prop :=
  (∀ (s : State) (p : Pair) (lo hi : Byte), p ≠ .af →
    exec (decodeAt (byte (0x01 + 16 * codePair p)) lo hi) s = .next (withCycles 12 (withPair (advance 3 s) p (mk16 hi lo))))
  ∧ (∀ (s : State) (nn : Word),
    exec (.ld_at_a16_SP nn) s
      = .next (withCycles 20 (memWrite (memWrite (advance 3 s) nn (loByte s.cpu.sp)) (nn + 1) (hiByte s.cpu.sp))))
  ∧ (∀ s : State, exec .ld_SP_HL s = .next (withCycles 8 (withSp (advance 1 s) (pair s .hl))))

/-- R233 (ld_HL_SP_e8) and R281 (add_SP_e8): SP plus the signed byte, modulo 0x10000. -/
def Obligations.StackPointerOffset : Prop :=
  ∀ (s : State) (e : Byte),
    exec (.ld_HL_SP_e8 e) s
      = .next (withCycles 12 (withFlags (withPair (advance 2 s) .hl (BitVec.ofInt 16 (s.cpu.sp.toNat + e.toInt)))
          (spFlags s.cpu.sp e)))
    ∧ exec (.add_SP_e8 e) s
      = .next (withCycles 16 (withFlags (withSp (advance 2 s) (BitVec.ofInt 16 (s.cpu.sp.toNat + e.toInt)))
          (spFlags s.cpu.sp e)))

/-! ### Stack -/

/-- R234 (push_BC, push_DE, push_HL, push_AF): the high byte to SP - 1 first, then the low byte to SP - 2. R235 (pop_BC,
pop_DE, pop_HL) and R236 (pop_AF, the low nibble of F dropped): the low byte at SP, the high byte at SP + 1. -/
def Obligations.PushAndPop : Prop :=
  ∀ (s : State) (p : Pair) (b1 b2 : Byte), p ≠ .sp →
    exec (decodeAt (byte (0xC5 + 16 * codePair p)) b1 b2) s
      = .next (withCycles 16 (withSp (memWrite (memWrite (advance 1 s) (s.cpu.sp - 1) (hiByte (pair s p))) (s.cpu.sp - 2)
          (loByte (pair s p))) (s.cpu.sp - 2)))
    ∧ exec (decodeAt (byte (0xC1 + 16 * codePair p)) b1 b2) s
      = .next (withCycles 12 (withPair (withSp (advance 1 s) (s.cpu.sp + 2)) p
          (mk16 (memRead s (s.cpu.sp + 1)) (memRead s s.cpu.sp))))

/-- R37: push then pop restores the value and the stack pointer, for every pair pushed and every pair popped, where the two
stack bytes are plain storage; a pop to AF drops the low nibble. -/
def Obligations.PushThenPopRestores : Prop :=
  ∀ (s t u : State) (p q : Pair) (b1 b2 b3 b4 : Byte), s.storesOk = true → p ≠ .sp → q ≠ .sp →
    plain (locate s (s.cpu.sp - 1)) = true → plain (locate s (s.cpu.sp - 2)) = true →
    locate s (s.cpu.sp - 1) ≠ locate s (s.cpu.sp - 2) →
    exec (decodeAt (byte (0xC5 + 16 * codePair p)) b1 b2) s = .next t →
    exec (decodeAt (byte (0xC1 + 16 * codePair q)) b3 b4) t = .next u →
    pair u q = (if q = .af then pair s p &&& 0xFFF0 else pair s p) ∧ u.cpu.sp = s.cpu.sp

/-! ### 8-bit arithmetic and logic -/

/-- R251 (add_A_r, add_A_atHL, add_A_d8) and R252 (adc_A_r, adc_A_atHL, adc_A_d8), r in B C D E H L A. -/
def Obligations.AddAndAdc : Prop :=
  AccRule 0 (fun a v _ => (a + v,
    { z := decide ((a + v) % 256 = 0), n := false, h := decide (15 < a % 16 + v % 16), c := decide (256 ≤ a + v) }))
  ∧ AccRule 1 (fun a v c => (a + v + c,
    { z := decide ((a + v + c) % 256 = 0), n := false, h := decide (15 < a % 16 + v % 16 + c),
      c := decide (256 ≤ a + v + c) }))

/-- R253 (sub_r, sub_atHL, sub_d8), R254 (sbc_A_r, sbc_A_atHL, sbc_A_d8) and R258 (cp_r, cp_atHL, cp_d8: A not written). -/
def Obligations.SubSbcAndCp : Prop :=
  AccRule 2 (fun a v _ => (a + 256 - v,
    { z := decide (a = v), n := true, h := decide (a % 16 < v % 16), c := decide (a < v) }))
  ∧ AccRule 3 (fun a v c => (a + 512 - v - c,
    { z := decide ((a + 512 - v - c) % 256 = 0), n := true, h := decide (a % 16 < v % 16 + c),
      c := decide (a < v + c) }))
  ∧ AccRule 7 (fun a v _ => (a, { z := decide (a = v), n := true, h := decide (a % 16 < v % 16), c := decide (a < v) }))

/-- R255 (and_r, and_atHL, and_d8), R256 (xor_r, xor_atHL, xor_d8) and R257 (or_r, or_atHL, or_d8). -/
def Obligations.AndXorOr : Prop :=
  AccRule 4 (fun a v _ => (a &&& v, { z := decide (a &&& v = 0), n := false, h := true, c := false }))
  ∧ AccRule 5 (fun a v _ => (a ^^^ v, { z := decide (a = v), n := false, h := false, c := false }))
  ∧ AccRule 6 (fun a v _ => (a ||| v, { z := decide (a = 0 ∧ v = 0), n := false, h := false, c := false }))

/-- R259, R260 (inc_r, inc_atHL) and R261, R262 (dec_r, dec_atHL): C unchanged. -/
def Obligations.IncAndDec : Prop :=
  ∀ (s : State) (r : R8) (b1 b2 : Byte),
    let old := (rd8 s r).toNat
    exec (decodeAt (byte (0x04 + 8 * code8 r)) b1 b2) s
      = .next (withCycles (if r = .atHL then 12 else 4) (withFlags (wr8 (advance 1 s) r (byte (old + 1)))
          { z := decide (old = 255), n := false, h := decide (old % 16 = 15), c := s.cpu.f.c }))
    ∧ exec (decodeAt (byte (0x05 + 8 * code8 r)) b1 b2) s
      = .next (withCycles (if r = .atHL then 12 else 4) (withFlags (wr8 (advance 1 s) r (byte (old + 255)))
          { z := decide (old = 1), n := true, h := decide (old % 16 = 0), c := s.cpu.f.c }))

/-- R263 (daa). -/
def Obligations.DaaRule : Prop :=
  ∀ s : State,
    let x := daaNat s.cpu.f.n s.cpu.f.h s.cpu.f.c s.cpu.a.toNat
    exec .daa s = .next (withCycles 4 (withFlags (withA (advance 1 s) (byte x.1))
      { z := decide (x.1 % 256 = 0), n := s.cpu.f.n, h := false, c := x.2 }))

/-- What DAA is for (R251 to R254 with R263): an addition or subtraction of two-digit decimal numbers in BCD, then DAA, gives
the decimal result with the decimal carry or borrow in C. Covers add_A_d8, adc_A_d8, sub_d8, sbc_A_d8 and daa. -/
def Obligations.DaaGivesDecimalResult : Prop :=
  ∀ (s t u : State) (x y : Nat), x < 100 → y < 100 → s.cpu.a = bcd x →
    (exec (.add_A_d8 (bcd y)) s = .next t → exec .daa t = .next u →
      u.cpu.a = bcd ((x + y) % 100) ∧ u.cpu.f.c = decide (100 ≤ x + y))
    ∧ (exec (.adc_A_d8 (bcd y)) s = .next t → exec .daa t = .next u →
      u.cpu.a = bcd ((x + y + bitNat s.cpu.f.c) % 100) ∧ u.cpu.f.c = decide (100 ≤ x + y + bitNat s.cpu.f.c))
    ∧ (exec (.sub_d8 (bcd y)) s = .next t → exec .daa t = .next u →
      u.cpu.a = bcd ((x + 100 - y) % 100) ∧ u.cpu.f.c = decide (x < y))
    ∧ (exec (.sbc_A_d8 (bcd y)) s = .next t → exec .daa t = .next u →
      u.cpu.a = bcd ((x + 200 - y - bitNat s.cpu.f.c) % 100) ∧ u.cpu.f.c = decide (x < y + bitNat s.cpu.f.c))

/-- R264 (cpl), R265 (scf), R266 (ccf). -/
def Obligations.CplScfCcf : Prop :=
  ∀ s : State,
    exec .cpl s = .next (withCycles 4 (withFlags (withA (advance 1 s) (byte (255 - s.cpu.a.toNat)))
      { z := s.cpu.f.z, n := true, h := true, c := s.cpu.f.c }))
    ∧ exec .scf s = .next (withCycles 4 (withFlags (advance 1 s) { z := s.cpu.f.z, n := false, h := false, c := true }))
    ∧ exec .ccf s = .next (withCycles 4 (withFlags (advance 1 s) { z := s.cpu.f.z, n := false, h := false, c := !s.cpu.f.c }))

/-! ### 16-bit arithmetic -/

/-- R280 (add_HL_BC, add_HL_DE, add_HL_HL, add_HL_SP), R282 (inc_BC, inc_DE, inc_HL, inc_SP), R283 (dec_BC, dec_DE, dec_HL,
dec_SP). -/
def Obligations.WordArithmetic : Prop :=
  ∀ (s : State) (p : Pair) (b1 b2 : Byte), p ≠ .af →
    exec (decodeAt (byte (0x09 + 16 * codePair p)) b1 b2) s
      = .next (withCycles 8 (withFlags
          (withPair (advance 1 s) .hl (BitVec.ofNat 16 (((pair s .hl).toNat + (pair s p).toNat) % 65536)))
          { z := s.cpu.f.z, n := false, h := decide (4095 < (pair s .hl).toNat % 4096 + (pair s p).toNat % 4096),
            c := decide (65536 ≤ (pair s .hl).toNat + (pair s p).toNat) }))
    ∧ exec (decodeAt (byte (0x03 + 16 * codePair p)) b1 b2) s
      = .next (withCycles 8 (withPair (advance 1 s) p (BitVec.ofNat 16 ((pair s p).toNat + 1))))
    ∧ exec (decodeAt (byte (0x0B + 16 * codePair p)) b1 b2) s
      = .next (withCycles 8 (withPair (advance 1 s) p (BitVec.ofNat 16 ((pair s p).toNat + 65535))))

/-! ### Rotates, shifts and bits -/

/-- R290 (rlca), R291 (rrca), R292 (rla), R293 (rra): the result as a number; Z is 0 even when A is 0. -/
def Obligations.AccumulatorRotates : Prop :=
  ∀ s : State,
    let a := s.cpu.a.toNat
    let k := bitNat s.cpu.f.c
    let out (w : Nat) (c : Bool) : State :=
      withCycles 4 (withFlags (withA (advance 1 s) (byte w)) { z := false, n := false, h := false, c := c })
    exec .rlca s = .next (out (2 * a + a / 128) (decide (128 ≤ a)))
    ∧ exec .rrca s = .next (out (a / 2 + 128 * (a % 2)) (decide (a % 2 = 1)))
    ∧ exec .rla s = .next (out (2 * a + k) (decide (128 ≤ a)))
    ∧ exec .rra s = .next (out (a / 2 + 128 * k) (decide (a % 2 = 1)))

/-- R295 to R302 with R294: rlc, rrc, rl, rr, sla, sra, swap, srl, each of B C D E H L (HL) A. -/
def Obligations.CbRotatesAndShifts : Prop :=
  RotRule 0 (fun v _ => (2 * v + v / 128, decide (128 ≤ v)))
  ∧ RotRule 1 (fun v _ => (v / 2 + 128 * (v % 2), decide (v % 2 = 1)))
  ∧ RotRule 2 (fun v k => (2 * v + k, decide (128 ≤ v)))
  ∧ RotRule 3 (fun v k => (v / 2 + 128 * k, decide (v % 2 = 1)))
  ∧ RotRule 4 (fun v _ => (2 * v, decide (128 ≤ v)))
  ∧ RotRule 5 (fun v _ => (v / 2 + 128 * (v / 128), decide (v % 2 = 1)))
  ∧ RotRule 6 (fun v _ => (16 * (v % 16) + v / 16, false))
  ∧ RotRule 7 (fun v _ => (v / 2, decide (v % 2 = 1)))

/-- R303 (bit_b_r, bit_b_atHL), R304 (res_b_r, res_b_atHL), R305 (set_b_r, set_b_atHL), b in 0..7: bit b as a number. -/
def Obligations.BitResAndSet : Prop :=
  ∀ (s : State) (r : R8) (b : Nat) (b2 : Byte), b < 8 →
    let v := (rd8 s r).toNat
    let bit := v / 2 ^ b % 2
    exec (decodeAt 0xCB (byte (0x40 + 8 * b + code8 r)) b2) s
      = .next (withCycles (if r = .atHL then 12 else 8) (withFlags (advance 2 s)
          { z := decide (bit = 0), n := false, h := true, c := s.cpu.f.c }))
    ∧ exec (decodeAt 0xCB (byte (0x80 + 8 * b + code8 r)) b2) s
      = .next (withCycles (if r = .atHL then 16 else 8) (wr8 (advance 2 s) r (byte (v - bit * 2 ^ b))))
    ∧ exec (decodeAt 0xCB (byte (0xC0 + 8 * b + code8 r)) b2) s
      = .next (withCycles (if r = .atHL then 16 else 8) (wr8 (advance 2 s) r (byte (v + (1 - bit) * 2 ^ b))))

/-! ### Control transfer -/

/-- R320 to R325: jp_a16, jp_NZ_a16, jp_Z_a16, jp_NC_a16, jp_C_a16, jp_atHL, jr_e8, jr_NZ_e8, jr_Z_e8, jr_NC_e8,
jr_C_e8, taken and not taken. -/
def Obligations.Jumps : Prop :=
  ∀ (s : State) (k : Cond) (lo hi : Byte),
    exec (.jp_a16 (mk16 hi lo)) s = .next (withCycles 16 (withPc (advance 3 s) (mk16 hi lo)))
    ∧ (condition k s.cpu.f → exec (decodeAt (byte (0xC2 + 8 * codeCond k)) lo hi) s
        = .next (withCycles 16 (withPc (advance 3 s) (mk16 hi lo))))
    ∧ (¬ condition k s.cpu.f → exec (decodeAt (byte (0xC2 + 8 * codeCond k)) lo hi) s
        = .next (withCycles 12 (advance 3 s)))
    ∧ exec .jp_atHL s = .next (withCycles 4 (withPc (advance 1 s) (mk16 s.cpu.h s.cpu.l)))
    ∧ exec (.jr_e8 lo) s = .next (withCycles 12 (withPc (advance 2 s) (relative s lo)))
    ∧ (condition k s.cpu.f → exec (decodeAt (byte (0x20 + 8 * codeCond k)) lo hi) s
        = .next (withCycles 12 (withPc (advance 2 s) (relative s lo))))
    ∧ (¬ condition k s.cpu.f → exec (decodeAt (byte (0x20 + 8 * codeCond k)) lo hi) s
        = .next (withCycles 8 (advance 2 s)))

/-- R326 (call_a16), R327 (call_NZ_a16, call_Z_a16, call_NC_a16, call_C_a16), R331 (rst_00, rst_08, rst_10, rst_18, rst_20,
rst_28, rst_30, rst_38). -/
def Obligations.CallsAndRestarts : Prop :=
  ∀ (s : State) (k : Cond) (lo hi : Byte) (y : Nat), y < 8 →
    exec (.call_a16 (mk16 hi lo)) s = .next (withCycles 24 (called 3 (mk16 hi lo) s))
    ∧ (condition k s.cpu.f → exec (decodeAt (byte (0xC4 + 8 * codeCond k)) lo hi) s
        = .next (withCycles 24 (called 3 (mk16 hi lo) s)))
    ∧ (¬ condition k s.cpu.f → exec (decodeAt (byte (0xC4 + 8 * codeCond k)) lo hi) s
        = .next (withCycles 12 (advance 3 s)))
    ∧ exec (decodeAt (byte (0xC7 + 8 * y)) lo hi) s = .next (withCycles 16 (called 1 (BitVec.ofNat 16 (8 * y)) s))

/-- R328 (ret), R329 (ret_NZ, ret_Z, ret_NC, ret_C), R330 (reti: IME is set at once and nothing else is restored). -/
def Obligations.Returns : Prop :=
  ∀ (s : State) (k : Cond) (b1 b2 : Byte),
    exec .ret s = .next (withCycles 16 (returned s))
    ∧ (condition k s.cpu.f → exec (decodeAt (byte (0xC0 + 8 * codeCond k)) b1 b2) s = .next (withCycles 20 (returned s)))
    ∧ (¬ condition k s.cpu.f → exec (decodeAt (byte (0xC0 + 8 * codeCond k)) b1 b2) s = .next (withCycles 8 (advance 1 s)))
    ∧ exec .reti s
        = .next (withCycles 16 { returned s with cpu := { (returned s).cpu with ime := true } })

/-! ### System instructions and the end of a run -/

/-- R350 (nop), R354 (di: at once, the EI delay cancelled), R355 (ei: only the delay is set). -/
def Obligations.NopDiEi : Prop :=
  ∀ s : State,
    exec .nop s = .next (withCycles 4 (advance 1 s))
    ∧ exec .di s
        = .next (withCycles 4 { advance 1 s with cpu := { (advance 1 s).cpu with ime := false, imeDelay := false } })
    ∧ exec .ei s = .next (withCycles 4 { advance 1 s with cpu := { (advance 1 s).cpu with imeDelay := true } })

/-- R351 (halt): with IME clear and an enabled interrupt requested the CPU does not halt, and HALT sets the bug bit or acts
as NOP by the parameter; otherwise it halts. -/
def Obligations.HaltCases : Prop :=
  ∀ s : State,
    (s.cpu.ime = false → somePending s → s.cfg.haltBug = true →
      exec .halt s = .next (withCycles 4 { advance 1 s with cpu := { (advance 1 s).cpu with haltBug := true } }))
    ∧ (s.cpu.ime = false → somePending s → s.cfg.haltBug = false → exec .halt s = .next (withCycles 4 (advance 1 s)))
    ∧ (s.cpu.ime = true ∨ ¬ somePending s →
      exec .halt s = .next (withCycles 4 { advance 1 s with cpu := { (advance 1 s).cpu with halted := true } }))

/-- R352, R353 (stop): refused, with everything but the status as before; or DIV reset under the edge rule, CPU stopped. -/
def Obligations.StopModes : Prop :=
  ∀ (s : State) (x : Byte),
    (s.cfg.stopMode = .refuse → exec (.stop x) s = .next { s with status := .refused s.cpu.pc x })
    ∧ (s.cfg.stopMode = .lowPower → ∃ t, exec (.stop x) s = .next t
        ∧ t.cpu = { (advance 2 s).cpu with stopped := true } ∧ t.timer.div = 0 ∧ t.stepCycles = 4
        ∧ t.timer.tac = s.timer.tac ∧ t.timer.tma = s.timer.tma ∧ t.ppu = s.ppu
        ∧ (timerInput s.timer = false → t.timer.tima = s.timer.tima ∧ t.intr = s.intr)
        ∧ (timerInput s.timer = true → t.timer.tima = (if s.timer.tima = 0xFF then s.timer.tma else s.timer.tima + 1)
            ∧ t.intr.req = (if s.timer.tima = 0xFF then s.intr.req ||| 0b00100 else s.intr.req))
        ∧ ∀ a : Word, a ≠ 0xFF04 → a ≠ 0xFF05 → a ≠ 0xFF0F → memRead t a = memRead s a)

/-- R357, R440, R406 (undefined): each of the eleven bytes ends the run with a fault that carries the byte and its address;
PC and everything but the status stay, no device advances, and no later step is enabled. The shape is the model's choice
(log entry 7, DEDUCED): the step that ends the run answers a next state in which only the status is new, and the step after
it, which R406 does not enable, answers the fault. -/
def Obligations.UndefinedOpcodeEndsRun : Prop :=
  ∀ (s : State) (op b1 b2 : Byte), undefinedBytes.contains op = true →
    exec (decodeAt op b1 b2) s = .next { s with status := .faulted op s.cpu.pc }
    ∧ (s.status = .running → s.cpu.stopped = false → s.cpu.halted = false → interruptTaken s = none →
        memRead s s.cpu.pc = op →
        step s = .next { s with status := .faulted op s.cpu.pc }
        ∧ step { s with status := .faulted op s.cpu.pc } = .fault (.undefinedOpcode op s.cpu.pc))

/-- R406: a step is enabled exactly while the run has not ended, and then it answers a next state: no access, no result and
no instruction stops the machine. That the step of an ended run answers the fault or the refusal its status records is the
model's choice (log entry 7, DEDUCED): R406 says only that no step is enabled then. -/
def Obligations.StepEnabledWhileRunning : Prop :=
  ∀ s : State,
    (s.status = .running → ∃ t, step s = .next t)
    ∧ (∀ op addr, s.status = .faulted op addr → step s = .fault (.undefinedOpcode op addr))
    ∧ (∀ addr x, s.status = .refused addr x → step s = .refused (.stopRefused addr x))

/-! ### The opcode table's columns -/

/-- R187 and R34: every defined opcode of the unprefixed map but STOP costs the cycles of its row, the taken count where its
condition holds, and leaves each flag unchanged, at the constant, or computed, as the row's columns say. Covers all 243
constructors of the map R181 but stop. -/
def Obligations.CyclesAndFlagColumns : Prop :=
  ∀ (s : State) (b0 b1 b2 : Byte), b0 ≠ 0xCB → b0 ≠ 0x10 → undefinedBytes.contains b0 = false →
    let row := tableRow b0.toNat
    ∃ t, exec (decodeAt b0 b1 b2) s = .next t
      ∧ (condition (condAt b0.toNat) s.cpu.f → t.stepCycles = row.taken)
      ∧ (¬ condition (condAt b0.toNat) s.cpu.f → t.stepCycles = row.notTaken)
      ∧ row.z.allows s.cpu.f.z t.cpu.f.z ∧ row.n.allows s.cpu.f.n t.cpu.f.n
      ∧ row.h.allows s.cpu.f.h t.cpu.f.h ∧ row.c.allows s.cpu.f.c t.cpu.f.c

/-! ### Frames -/

/-- R105, R106: a form reads and writes only the bytes its rule names. Where every stored byte is isolated, every address
decoded to another place reads as before; a form that stores nothing leaves every read as before. Every instruction but
STOP, whose LOW_POWER form resets DIV (R353; its own statement gives its reads). -/
def Obligations.StoresChangeOnlyTheirBytes : Prop :=
  ∀ (s t : State) (b0 b1 b2 : Byte), b0 ≠ 0x10 →
    exec (decodeAt b0 b1 b2) s = .next t →
    (∀ x ∈ storedAt b0 b1 b2 s, isolated (locate s x) = true) →
    ∀ a : Word, (∀ x ∈ storedAt b0 b1 b2 s, locate s a ≠ locate s x) → memRead t a = memRead s a

/-- R32, R38: every instruction leaves every 8-bit register outside the ones it writes, SP unless it is a stack or SP
instruction, IME but for RETI and DI, the EI delay but for EI and DI, and the low-power bits but for HALT and STOP. The
parameters, the host's buttons and the cycle total are written by none. -/
def Obligations.RegistersOutsideDestinationsKept : Prop :=
  ∀ (s t : State) (b0 b1 b2 : Byte), exec (decodeAt b0 b1 b2) s = .next t →
    (∀ r : R8, r ≠ .atHL → r ∉ writtenRegs b0 b1 → rd8 t r = rd8 s r)
    ∧ (writesSp b0 = false → t.cpu.sp = s.cpu.sp)
    ∧ (b0 ≠ 0xD9 → b0 ≠ 0xF3 → t.cpu.ime = s.cpu.ime)
    ∧ (b0 ≠ 0xFB → b0 ≠ 0xF3 → t.cpu.imeDelay = s.cpu.imeDelay)
    ∧ (b0 ≠ 0x76 → t.cpu.halted = s.cpu.halted) ∧ (b0 ≠ 0x10 → t.cpu.stopped = s.cpu.stopped)
    ∧ t.cfg = s.cfg ∧ t.joy.dirs = s.joy.dirs ∧ t.joy.acts = s.joy.acts ∧ t.totalCycles = s.totalCycles

/-- R106, R111: an instruction that stores nothing changes the CPU, the step's cycle count and nothing else: no device, no
RAM array, no bank register, no latch. Every instruction but STOP and the undefined bytes. -/
def Obligations.NonStoringFormsChangeOnlyCpu : Prop :=
  ∀ (s t : State) (b0 b1 b2 : Byte), b0 ≠ 0x10 → undefinedBytes.contains b0 = false →
    storedAt b0 b1 b2 s = [] → exec (decodeAt b0 b1 b2) s = .next t →
    t = { s with cpu := t.cpu, stepCycles := t.stepCycles }

/-! ### The bus -/

/-- R106, R110, R111: in a state with canonical stores, plain storage reads back what was written, through every address
decoded to the same place; a write to an isolated target changes no read at any other target; no write of any target
changes the CPU, the status or the cycle counts; an access in E000-FDFF is the same access 0x2000 below (R113). What the
addresses are decoded to: `MemoryMap` gives the ranges outside the cartridge windows (R110 to R114), `SpecialRegisters` and
`StorageRegisters` the I/O page (R115; R51 to R71); the cartridge windows have statements of their own. -/
def Obligations.BusStorage : Prop :=
  ∀ (s : State) (a b : Word) (v : Byte),
    (s.storesOk = true → plain (locate s a) = true → locate s b = locate s a → memRead (memWrite s a v) b = v)
    ∧ (isolated (locate s a) = true → locate s b ≠ locate s a → memRead (memWrite s a v) b = memRead s b)
    ∧ (memWrite s a v).cpu = s.cpu ∧ (memWrite s a v).status = s.status
    ∧ (memWrite s a v).stepCycles = s.stepCycles ∧ (memWrite s a v).totalCycles = s.totalCycles
    ∧ (0xE000 ≤ a.toNat → a.toNat ≤ 0xFDFF →
        memRead s a = memRead s (a - 0x2000) ∧ memWrite s a v = memWrite s (a - 0x2000) v)
    ∧ MemoryMap s a v ∧ SpecialRegisters s v ∧ StorageRegisters s v

/-- R111, R70, R77, R122 to R124: no write changes ROM, the parameters or the controller kind, and none re-enables the boot
ROM; without a controller, the ROM windows read banks 0 and 1 and discard writes, and the RAM window reads RAM if there is
any. -/
def Obligations.WritesNeverChangeRom : Prop :=
  ∀ (s : State) (a : Word) (v : Byte),
    let t := memWrite s a v
    t.cfg = s.cfg ∧ (a = 0xFF50 → t.bootRomEnabled = false) ∧ (a ≠ 0xFF50 → t.bootRomEnabled = s.bootRomEnabled)
    ∧ (0x8000 ≤ a.toNat → t.bank = s.bank)
    ∧ (s.bank = .none → a.toNat ≤ 0x7FFF → t = s)
    ∧ (s.bank = .none → a.toNat ≤ 0x7FFF → 2 ≤ s.cfg.romBanks → (s.bootRomEnabled = false ∨ 0x100 ≤ a.toNat) →
        memRead s a = Store.read s.cfg.rom a.toNat)
    ∧ (s.bootRomEnabled = true → a.toNat ≤ 0xFF → memRead s a = Store.read s.cfg.bootRom a.toNat)
    ∧ (s.bank = .none → s.cfg.ramSize ≠ 0 → 0xA000 ≤ a.toNat → a.toNat ≤ 0xBFFF →
        memRead s a = Store.read s.xram ((a.toNat - 0xA000) % s.cfg.ramSize)
        ∧ t = { s with xram := Store.write s.xram ((a.toNat - 0xA000) % s.cfg.ramSize) v })
    ∧ (s.bank = .none → s.cfg.ramSize = 0 → 0xA000 ≤ a.toNat → a.toNat ≤ 0xBFFF →
        memRead s a = s.cfg.disabledRamRead ∧ t = s)

/-- R120, R125 to R127: the MBC1 registers by their windows, the ROM banks they select (bank number modulo the bank count,
0 aliased to 1 first), the RAM enable latch and the RAM bank. -/
def Obligations.Mbc1Banking : Prop :=
  ∀ (s : State) (m : Mbc1) (a : Word) (v : Byte), s.bank = .mbc1 m →
    (a.toNat ≤ 0x1FFF → (memWrite s a v).bank = .mbc1 { m with ramEnable := decide (v.toNat % 16 = 10) })
    ∧ (0x2000 ≤ a.toNat → a.toNat ≤ 0x3FFF → (memWrite s a v).bank = .mbc1 { m with bank1 := BitVec.ofNat 5 v.toNat })
    ∧ (0x4000 ≤ a.toNat → a.toNat ≤ 0x5FFF → (memWrite s a v).bank = .mbc1 { m with bank2 := BitVec.ofNat 2 v.toNat })
    ∧ (0x6000 ≤ a.toNat → a.toNat ≤ 0x7FFF → (memWrite s a v).bank = .mbc1 { m with mode := decide (v.toNat % 2 = 1) })
    ∧ (a.toNat ≤ 0x3FFF → (s.bootRomEnabled = false ∨ 0x100 ≤ a.toNat) →
        memRead s a = Store.read s.cfg.rom
          ((if m.mode then m.bank2.toNat * 32 else 0) % s.cfg.romBanks * 0x4000 + a.toNat))
    ∧ (0x4000 ≤ a.toNat → a.toNat ≤ 0x7FFF →
        memRead s a = Store.read s.cfg.rom
          ((m.bank2.toNat * 32 + (if m.bank1 = 0 then 1 else m.bank1.toNat)) % s.cfg.romBanks * 0x4000
            + (a.toNat - 0x4000)))
    ∧ (0xA000 ≤ a.toNat → a.toNat ≤ 0xBFFF → m.ramEnable = false ∨ s.cfg.ramSize = 0 →
        memRead s a = s.cfg.disabledRamRead ∧ memWrite s a v = s)
    ∧ (0xA000 ≤ a.toNat → a.toNat ≤ 0xBFFF → m.ramEnable = true → s.cfg.ramSize ≠ 0 →
        let i := ((if m.mode then m.bank2.toNat else 0) % s.cfg.ramBanks * 0x2000 + (a.toNat - 0xA000)) % s.cfg.ramSize
        memRead s a = Store.read s.xram i ∧ memWrite s a v = { s with xram := Store.write s.xram i v })

/-- R128 to R130: the MBC3 registers by their windows, the ROM bank, the RTC select, the RAM enable latch, the RAM bank, and
the RAM window of a cartridge without RAM. -/
def Obligations.Mbc3Banking : Prop :=
  ∀ (s : State) (m : Mbc3) (a : Word) (v : Byte), s.bank = .mbc3 m →
    (a.toNat ≤ 0x1FFF → (memWrite s a v).bank = .mbc3 { m with ramEnable := decide (v.toNat % 16 = 10) })
    ∧ (0x2000 ≤ a.toNat → a.toNat ≤ 0x3FFF → (memWrite s a v).bank = .mbc3 { m with romBank := BitVec.ofNat 7 v.toNat })
    ∧ (0x4000 ≤ a.toNat → a.toNat ≤ 0x5FFF → (memWrite s a v).bank = .mbc3 { m with ramSel := v })
    ∧ (0x6000 ≤ a.toNat → a.toNat ≤ 0x7FFF → memWrite s a v = s)
    ∧ (a.toNat ≤ 0x3FFF → (s.bootRomEnabled = false ∨ 0x100 ≤ a.toNat) → memRead s a = Store.read s.cfg.rom a.toNat)
    ∧ (0x4000 ≤ a.toNat → a.toNat ≤ 0x7FFF →
        memRead s a = Store.read s.cfg.rom
          ((if m.romBank = 0 then 1 else m.romBank.toNat) % s.cfg.romBanks * 0x4000 + (a.toNat - 0x4000)))
    ∧ (0xA000 ≤ a.toNat → a.toNat ≤ 0xBFFF → m.ramEnable = false →
        memRead s a = s.cfg.disabledRamRead ∧ memWrite s a v = s)
    ∧ (0xA000 ≤ a.toNat → a.toNat ≤ 0xBFFF → m.ramEnable = true → 8 ≤ m.ramSel.toNat → m.ramSel.toNat ≤ 12 →
        memRead s a = s.cfg.rtcRead ∧ memWrite s a v = s)
    ∧ (0xA000 ≤ a.toNat → a.toNat ≤ 0xBFFF → m.ramEnable = true → (m.ramSel.toNat < 8 ∨ 12 < m.ramSel.toNat) →
        s.cfg.ramSize ≠ 0 →
        let i := (m.ramSel.toNat % s.cfg.ramBanks * 0x2000 + (a.toNat - 0xA000)) % s.cfg.ramSize
        memRead s a = Store.read s.xram i ∧ memWrite s a v = { s with xram := Store.write s.xram i v })
    ∧ (0xA000 ≤ a.toNat → a.toNat ≤ 0xBFFF → m.ramEnable = true → (m.ramSel.toNat < 8 ∨ 12 < m.ramSel.toNat) →
        s.cfg.ramSize = 0 → memRead s a = s.cfg.disabledRamRead ∧ memWrite s a v = s)

/-- R65: a write to DMA stores the page and copies 160 bytes at once: each byte of OAM is the byte the source read as before
the write (the DMA register itself, inside the page FF, reads the page just stored); nothing else changes. -/
def Obligations.OamDmaCopies : Prop :=
  ∀ (s t : State) (v : Byte), s.storesOk = true → t = memWrite s 0xFF46 v →
    t.ppu = { s.ppu with dma := v } ∧ t = { s with ppu := t.ppu, oam := t.oam }
    ∧ ∀ i < 160, Store.read t.oam i
        = (if v = 0xFF ∧ i = 0x46 then v else memRead s (BitVec.ofNat 16 (v.toNat * 256 + i)))

/-- R473: an LCDC write that changes bit 7 restarts the scanline state machine at once and requests nothing. -/
def Obligations.LcdSwitch : Prop :=
  ∀ (s : State) (v : Byte),
    let t := memWrite s 0xFF40 v
    t.intr = s.intr ∧ t.ppu.lcdc = v ∧ t.ppu.fb = s.ppu.fb ∧ t.ppu.frameReady = s.ppu.frameReady
    ∧ (128 ≤ s.ppu.lcdc.toNat → v.toNat < 128 → t.ppu.ly = 0 ∧ t.ppu.dot = 0 ∧ t.ppu.mode = .hBlank)
    ∧ (s.ppu.lcdc.toNat < 128 → 128 ≤ v.toNat → t.ppu.ly = 0 ∧ t.ppu.dot = 0 ∧ t.ppu.mode = .oamScan)
    ∧ ((128 ≤ s.ppu.lcdc.toNat ↔ 128 ≤ v.toNat) →
        t.ppu.ly = s.ppu.ly ∧ t.ppu.dot = s.ppu.dot ∧ t.ppu.mode = s.ppu.mode)

/-- R485, R491: the Joypad request is made exactly when an input line falls, by a host press or by a select write; the host's
write leaves the select bits. -/
def Obligations.JoypadRequestOnFallingLine : Prop :=
  ∀ (s : State) (dirs acts : BitVec 4) (v : Byte),
    (let t := hostSetButtons dirs acts s
     t.joy.dirs = dirs ∧ t.joy.acts = acts ∧ t.joy.p14 = s.joy.p14 ∧ t.joy.p15 = s.joy.p15
     ∧ (t.intr.req.getLsbD 4 = true ↔ s.intr.req.getLsbD 4 = true
          ∨ ∃ k < 4, (p1Read s.joy).getLsbD k = true ∧ (p1Read t.joy).getLsbD k = false)
     ∧ ∀ k < 4, t.intr.req.getLsbD k = s.intr.req.getLsbD k)
    ∧ (let t := memWrite s 0xFF00 v
       t.joy = { s.joy with p15 := v.getLsbD 5, p14 := v.getLsbD 4 }
       ∧ (t.intr.req.getLsbD 4 = true ↔ s.intr.req.getLsbD 4 = true
          ∨ ∃ k < 4, (p1Read s.joy).getLsbD k = true ∧ (p1Read t.joy).getLsbD k = false)
       ∧ ∀ k < 4, t.intr.req.getLsbD k = s.intr.req.getLsbD k)

/-! ### The step and interrupts -/

/-- R402, R404: a step of a running CPU that is neither stopped nor halted and takes no interrupt runs the instruction that
the bytes at PC decode to. R400, R405: where that instruction leaves the run going, a delayed EI sets IME, and then the
Timer, the PPU and the total of cycles advance, in this order, by the cycles n that the instruction returned. -/
def Obligations.StepRunsDecodedInstruction : Prop :=
  ∀ (s : State) (i : Instr) (rest : List Byte), s.status = .running → s.cpu.stopped = false → s.cpu.halted = false →
    interruptTaken s = none → decode (fetchBytes s) = .ok (i, rest) →
    step s = finishStep s.cpu.imeDelay (exec i s)
    ∧ (∀ t, exec i s = .next t → t.status = .running →
        let n := t.stepCycles
        let u := if s.cpu.imeDelay = true ∧ t.cpu.imeDelay = true
          then { t with cpu := { t.cpu with ime := true, imeDelay := false } } else t
        step s = .next { ppuAdvance n (timerAdvance n u) with totalCycles := s.totalCycles + n })
    ∧ (∀ t, exec i s = .next t → t.status ≠ .running → step s = .next t)

/-- R403: the fetch reads the opcode byte at PC and the operand bytes after it; after a HALT that set the bug bit the same
byte is read again and PC ends one byte earlier. -/
def Obligations.HaltBugReadsByteTwice : Prop :=
  ∀ (s : State) (len : Nat), 1 ≤ len →
    (s.cpu.haltBug = false →
      fetchBytes s = [memRead s s.cpu.pc, memRead s (s.cpu.pc + 1), memRead s (s.cpu.pc + 2)]
      ∧ (advance len s).cpu.pc = s.cpu.pc + BitVec.ofNat 16 len)
    ∧ (s.cpu.haltBug = true →
      fetchBytes s = [memRead s s.cpu.pc, memRead s s.cpu.pc, memRead s (s.cpu.pc + 1)]
      ∧ (advance len s).cpu.pc = s.cpu.pc + BitVec.ofNat 16 (len - 1))
    ∧ (advance len s).cpu.haltBug = false

/-- R421, R422: the pending vector is the lowest bit requested and enabled, at 0x0040 + 8 times the bit. -/
def Obligations.PendingVectorIsLowestBit : Prop :=
  ∀ s : State,
    (∀ k vec, pendingVector s = some (k, vec) ↔
      k < 5 ∧ s.intr.req.getLsbD k = true ∧ s.intr.ie.getLsbD k = true ∧ vec = BitVec.ofNat 16 (0x40 + 8 * k)
      ∧ ∀ j < k, s.intr.req.getLsbD j = false ∨ s.intr.ie.getLsbD j = false)
    ∧ (pendingVector s = none ↔ ¬ somePending s)

/-- R402, R430, R431: with IME set and an enabled request, a running CPU that is not stopped dispatches instead of fetching,
waking from HALT under either wake condition: PC (or the address of the HALT) is pushed, IME and the EI delay are
cleared, PC is the vector, that one request bit is cleared, and no other register or flag changes; then Timer, PPU and the
total advance by 20 cycles (R400). Where the pushed bytes
are plain storage they can be read back and the other requests are as before. -/
def Obligations.InterruptDispatch : Prop :=
  ∀ (s : State) (k : Nat) (vec : Word), s.status = .running → s.cpu.stopped = false →
    s.cpu.ime = true → pendingVector s = some (k, vec) →
    step s = .next { ppuAdvance 20 (timerAdvance 20 (dispatch k vec (unhalt s))) with totalCycles := s.totalCycles + 20 }
    ∧ (let t := dispatch k vec (unhalt s)
       let ret := if s.cpu.haltBug then s.cpu.pc - 1 else s.cpu.pc
       t.cpu = { s.cpu with sp := s.cpu.sp - 2, pc := vec, ime := false, imeDelay := false, haltBug := false, halted := false }
       ∧ t.stepCycles = 20 ∧ t.intr.req.getLsbD k = false
       ∧ (s.storesOk = true → plain (locate s (s.cpu.sp - 1)) = true → plain (locate s (s.cpu.sp - 2)) = true →
          locate s (s.cpu.sp - 1) ≠ locate s (s.cpu.sp - 2) →
          memRead t (s.cpu.sp - 1) = hiByte ret ∧ memRead t (s.cpu.sp - 2) = loByte ret
          ∧ ∀ j < 5, j ≠ k → t.intr.req.getLsbD j = s.intr.req.getLsbD j))

/-- R355, R402, R610: EI leaves IME clear after its own step; the step of the next instruction sets it, unless that
instruction cancels the delay. -/
def Obligations.EiTakesEffectOneInstructionLater : Prop :=
  ∀ s t : State, s.status = .running → s.cpu.stopped = false → s.cpu.halted = false → interruptTaken s = none →
    step s = .next t →
    (fetchInstr s = .ei → s.cpu.imeDelay = false → t.cpu.ime = s.cpu.ime ∧ t.cpu.imeDelay = true)
    ∧ (fetchInstr s = .di → t.cpu.ime = false ∧ t.cpu.imeDelay = false)
    ∧ (s.cpu.imeDelay = true → fetchInstr s ≠ .di → t.status = .running → t.cpu.ime = true ∧ t.cpu.imeDelay = false)

/-- R402, R401, R353: a halted CPU whose wake condition fails fetches nothing and spends 4 cycles, by which Timer, PPU and
the total advance (R400); one whose condition holds
goes on in the same step as if it were not halted; the condition is the parameter's. A stopped CPU with no line of P1 low
changes nothing and spends 0 cycles; a pressed button of a selected group ends the state in the same step. -/
def Obligations.WaitingStates : Prop :=
  ∀ s : State, s.status = .running →
    (s.cpu.stopped = false → s.cpu.halted = true →
      (¬ wakeCondition s → ∃ t, step s = .next t ∧ t.cpu = s.cpu ∧ t.stepCycles = 4 ∧ t.totalCycles = s.totalCycles + 4
        ∧ t.timer.div = s.timer.div + 4
        ∧ t = { ppuAdvance 4 (timerAdvance 4 { s with stepCycles := 4 }) with totalCycles := s.totalCycles + 4 })
      ∧ (wakeCondition s → step s = step (unhalt s)))
    ∧ (s.cpu.stopped = true →
      ((p1Read s.joy).toNat % 16 = 15 → step s = .next { s with stepCycles := 0 })
      ∧ ((p1Read s.joy).toNat % 16 ≠ 15 → step s = step (unstop s)))

/-- R39, R401, R620: every step that leaves the run going adds the cycles it returned to the total, and they are 0 exactly
for a stopped step and otherwise 4 to 24 in whole M-cycles. -/
def Obligations.CycleAccounting : Prop :=
  ∀ s t : State, step s = .next t → t.status = .running →
    t.totalCycles = s.totalCycles + t.stepCycles
    ∧ (t.stepCycles = 0 ↔ (s.cpu.stopped = true ∧ (p1Read s.joy).toNat % 16 = 15))
    ∧ t.stepCycles ≤ 24 ∧ t.stepCycles % 4 = 0

/-! ### Timer and PPU -/

/-- R57, R461: with the timer enabled, one period of master cycles increments TIMA exactly once from every divider phase, with
the reload and the request on overflow; disabled, TIMA holds; the divider always counts every cycle. -/
def Obligations.TimerCountsOncePerPeriod : Prop :=
  ∀ s : State,
    (let t := timerAdvance (timerPeriod (s.timer.tac.setWidth 2)) s
     s.timer.tac.getLsbD 2 = true →
      t.timer.tima = (if s.timer.tima = 0xFF then s.timer.tma else s.timer.tima + 1)
      ∧ (s.timer.tima = 0xFF → t.intr.req.getLsbD 2 = true) ∧ (s.timer.tima ≠ 0xFF → t.intr = s.intr))
    ∧ (∀ n, s.timer.tac.getLsbD 2 = false → (timerAdvance n s).timer.tima = s.timer.tima ∧ (timerAdvance n s).intr = s.intr)
    ∧ (∀ n, (timerAdvance n s).timer.div = s.timer.div + BitVec.ofNat 16 n)

/-- R54, R57, R462: a write to DIV or TAC that takes the selected bit from 1 to 0 increments TIMA once at once; any other
write of them leaves TIMA. On overflow TIMA takes TMA and the Timer request is made. -/
def Obligations.TimerEdgeOnRegisterWrite : Prop :=
  ∀ (s : State) (v : Byte),
    (let t := memWrite s 0xFF04 v
     t.timer.div = 0 ∧ t.timer.tac = s.timer.tac ∧ t.timer.tma = s.timer.tma
     ∧ t.timer.tima = (if timerInput s.timer then if s.timer.tima = 0xFF then s.timer.tma else s.timer.tima + 1
        else s.timer.tima)
     ∧ t.intr.req = (if timerInput s.timer ∧ s.timer.tima = 0xFF then s.intr.req ||| 0b00100 else s.intr.req))
    ∧ (let t := memWrite s 0xFF07 v
       t.timer.tac = BitVec.ofNat 3 v.toNat ∧ t.timer.div = s.timer.div ∧ t.timer.tma = s.timer.tma
       ∧ t.timer.tima = (if timerInput s.timer ∧ ¬ timerInput t.timer
          then if s.timer.tima = 0xFF then s.timer.tma else s.timer.tima + 1 else s.timer.tima)
       ∧ t.intr.req = (if timerInput s.timer ∧ ¬ timerInput t.timer ∧ s.timer.tima = 0xFF then s.intr.req ||| 0b00100
          else s.intr.req))

/-- R400: advancing the Timer and then the PPU by n cycles gives the same state as interleaving them cycle by cycle. -/
def Obligations.DeviceOrderDoesNotMatter : Prop :=
  ∀ (s : State) (n : Nat), ppuAdvance n (timerAdvance n s) = iter (fun u => ppuTick (timerTick u)) n s

/-- R471, R474, R476: with the LCD on, from every legal PPU state, 70224 dots are exactly one frame: the scanline state
machine is back where it was, line 144 was entered exactly once, and the VBlank request and the frame bit are set.
R471 to R476: one dot, from every state. With the LCD off nothing moves; with it on the dot counts, at dot 80 and 252 of a
visible line modes 3 and 0 are entered, at dot 456 the next line begins (mode 2 on a visible line, mode 1, the VBlank
request and the frame bit on line 144, no mode on the others). LCD-STAT is requested exactly on an entry into mode 0, 1 or 2
whose STAT bit 3, 4 or 5 is set, and on a new line equal to LYC with STAT bit 6 set. -/
def Obligations.OneFrameOneVBlank : Prop :=
  (∀ s t : State, ppuOk s.ppu = true → lcdOn s.ppu = true → t = ppuAdvance 70224 s →
    t.ppu.ly = s.ppu.ly ∧ t.ppu.dot = s.ppu.dot ∧ t.ppu.mode = s.ppu.mode
    ∧ vBlankEntries 70224 s = 1 ∧ t.intr.req.getLsbD 0 = true ∧ t.ppu.frameReady = true)
  ∧ ∀ s t : State, t = ppuTick s →
    let stat (k : Nat) : Bool := (memRead s 0xFF41).getLsbD k
    let dot := s.ppu.dot + 1
    let line := (s.ppu.ly + 1) % 154
    let lyc := stat 6 && decide (line = s.ppu.lyc.toNat)
    t = { s with ppu := t.ppu, intr := t.intr } ∧ t.intr.ie = s.intr.ie
    ∧ (s.ppu.lcdc.getLsbD 7 = false → t = s)
    ∧ (s.ppu.lcdc.getLsbD 7 = true →
      (s.ppu.ly < 144 → dot = 80 →
        t.ppu = { s.ppu with dot := 80, mode := .pixelTransfer, fb := t.ppu.fb } ∧ t.intr.req = s.intr.req)
      ∧ (s.ppu.ly < 144 → dot = 252 →
        t.ppu = { s.ppu with dot := 252, mode := .hBlank } ∧ t.intr.req = s.intr.req ||| (if stat 3 then 0b10 else 0))
      ∧ (dot = 456 → line < 144 →
        t.ppu = { s.ppu with dot := 0, ly := line, mode := .oamScan }
        ∧ t.intr.req = s.intr.req ||| (if stat 5 || lyc then 0b10 else 0))
      ∧ (dot = 456 → line = 144 →
        t.ppu = { s.ppu with dot := 0, ly := 144, mode := .vBlank, frameReady := true }
        ∧ t.intr.req = s.intr.req ||| 0b01 ||| (if stat 4 || lyc then 0b10 else 0))
      ∧ (dot = 456 → 144 < line →
        t.ppu = { s.ppu with dot := 0, ly := line } ∧ t.intr.req = s.intr.req ||| (if lyc then 0b10 else 0))
      ∧ (dot ≠ 456 → (144 ≤ s.ppu.ly ∨ dot ≠ 80 ∧ dot ≠ 252) →
        t.ppu = { s.ppu with dot := dot } ∧ t.intr.req = s.intr.req))

/-- R481: rendering line `y` writes row `y` of the frame buffer and no other; each of its 160 pixels is the shade that the
rule's arithmetic gives: the background off or on (LCDC bit 0), the plane position with its wrap, the map byte (LCDC bit 3),
the tile address, unsigned from 0x8000 or signed around 0x9000 (LCDC bit 4), bit 7 the leftmost pixel, and the BGP lookup
(R66). The bytes are those that the bus reads in VRAM (R146). R480, R471: that line is rendered by the dot that enters
pixel transfer, from dot 79 of a visible line with the LCD on, with the registers and VRAM as they stand then. -/
def Obligations.RenderWritesOneRow : Prop :=
  ∀ (s : State) (x y y' : Nat), s.storesOk = true → x < 160 →
    (let p := s.ppu
     let bx := (p.scx.toNat + x) % 256
     let py := (p.scy.toNat + y) % 256
     let map := if p.lcdc.getLsbD 3 then 0x9C00 else 0x9800
     let idx := memRead s (BitVec.ofNat 16 (map + py / 8 * 32 + bx / 8))
     let tile : Int := if p.lcdc.getLsbD 4 then 0x8000 + idx.toNat * 16 else 0x9000 + idx.toInt * 16
     let row : Int := tile + (py % 8 * 2 : Nat)
     let lo := memRead s (BitVec.ofInt 16 row)
     let hi := memRead s (BitVec.ofInt 16 (row + 1))
     let b := 7 - bx % 8
     let c := hi.toNat / 2 ^ b % 2 * 2 + lo.toNat / 2 ^ b % 2
     hostPixel (renderLine y s) x y
       = if p.lcdc.getLsbD 0 then BitVec.ofNat 2 (p.bgp.toNat / 2 ^ (2 * c) % 4) else 0)
    ∧ (y' ≠ y → hostPixel (renderLine y s) x y' = hostPixel s x y')
    ∧ (∃ fb, renderLine y s = { s with ppu := { s.ppu with fb := fb } })
    ∧ (lcdOn s.ppu = true → s.ppu.ly < 144 → s.ppu.dot = 79 →
        ppuTick s = { s with ppu := { (renderLine s.ppu.ly s).ppu with dot := 80, mode := .pixelTransfer } })

/-! ### Reset and invariants -/

/-- R85, R600, R77: the reset values that the spec gives, for every choice of parameters and every draw; the drawn registers
are the draw's. R602: the state when `SKIP_BOOT` is true. -/
def Obligations.ResetValues : Prop :=
  ∀ (cfg : Config) (kind : CartKind) (w : InitDraw),
    (cfg.skipBoot = false →
      let s := State.resetWith cfg kind w
      s.cpu.pc = 0 ∧ s.cpu.ime = false ∧ s.cpu.imeDelay = false ∧ s.cpu.halted = false ∧ s.cpu.haltBug = false
      ∧ s.cpu.stopped = false ∧ s.status = .running ∧ s.totalCycles = 0 ∧ s.bootRomEnabled = true
      ∧ s.timer = ⟨0, 0, 0, 0⟩ ∧ s.intr = ⟨0, 0⟩ ∧ s.joy = ⟨false, false, 0, 0⟩ ∧ s.serial = ⟨0, 0⟩ ∧ s.io = []
      ∧ s.ppu = ⟨0, 0, 0, 0, 0, 0, 0, 0, 0, 0, 0, .hBlank, 0, 0, [], false⟩
      ∧ s.bank = (match kind with
          | .none => .none
          | .mbc1 => .mbc1 ⟨false, 1, 0, false⟩
          | .mbc3 => .mbc3 ⟨false, 1, 0⟩)
      ∧ s.cpu.a = w.a ∧ s.cpu.f = w.f ∧ s.cpu.b = w.b ∧ s.cpu.c = w.c ∧ s.cpu.d = w.d ∧ s.cpu.e = w.e ∧ s.cpu.h = w.h
      ∧ s.cpu.l = w.l ∧ s.cpu.sp = w.sp ∧ s.vram = w.vram ∧ s.wram = w.wram ∧ s.oam = w.oam ∧ s.hram = w.hram
      ∧ s.xram = w.xram ∧ s.cfg = cfg)
    ∧ (cfg.skipBoot = true →
      let s := State.resetWith cfg kind w
      getPair s.cpu .af = 0x01B0 ∧ getPair s.cpu .bc = 0x0013 ∧ getPair s.cpu .de = 0x00D8 ∧ getPair s.cpu .hl = 0x014D
      ∧ s.cpu.sp = 0xFFFE ∧ s.cpu.pc = 0x0100 ∧ s.cpu.ime = false ∧ s.cpu.imeDelay = false ∧ s.cpu.halted = false
      ∧ s.cpu.haltBug = false ∧ s.cpu.stopped = false ∧ s.bootRomEnabled = false ∧ s.ppu.lcdc = 0x91 ∧ s.ppu.bgp = 0xFC
      ∧ s.ppu.ly = 0 ∧ s.ppu.dot = 0 ∧ s.ppu.mode = .oamScan ∧ s.timer.div = 0
      ∧ s = { State.resetBoot cfg kind w with cpu := s.cpu, ppu := s.ppu, bootRomEnabled := false })

/-- R604: when a load is refused and why; otherwise it gives the reset state. -/
def Obligations.LoadValidation : Prop :=
  ∀ (cfg : Config) (kind : Option CartKind) (w : InitDraw),
    (load cfg kind w = .error .tooShort ↔ cfg.romLen < 32768)
    ∧ (load cfg kind w = .error .notWholeBanks ↔ 32768 ≤ cfg.romLen ∧ ¬ 16384 ∣ cfg.romLen)
    ∧ (load cfg kind w = .error .unknownKind ↔ 32768 ≤ cfg.romLen ∧ 16384 ∣ cfg.romLen ∧ kind = none)
    ∧ (load cfg kind w = .error .badRamSize ↔ 32768 ≤ cfg.romLen ∧ 16384 ∣ cfg.romLen ∧ kind ≠ none
        ∧ cfg.ramSize ∉ [0, 2048, 8192, 32768, 65536, 131072])
    ∧ (∀ k, kind = some k → 32768 ≤ cfg.romLen → 16384 ∣ cfg.romLen → cfg.ramSize ∈ [0, 2048, 8192, 32768, 65536, 131072] →
        load cfg kind w = .ok (State.resetWith cfg k w))

/-- The state after reset is legal (`State.ok`); its parameters and its draw are the model's choice (log entries 1 to 3). -/
def Obligations.ResetIsLegal : Prop := State.reset.ok = true ∧ State.reset.live

/-- Every step keeps the state legal: the stores canonical and in range, line, dot and mode of the PPU consistent, the
low-power bits only under their parameters. From every legal state, reachable or not. -/
def Obligations.StepKeepsStateLegal : Prop :=
  ∀ s t : State, s.ok = true → step s = .next t → t.ok = true

/-- R8, R78, R116, R496: no step changes a parameter, the controller kind or the host's button masks, and the boot ROM, once
disabled, stays disabled. -/
def Obligations.StepKeepsParametersAndLatch : Prop :=
  ∀ s t : State, step s = .next t →
    t.cfg = s.cfg ∧ t.joy.dirs = s.joy.dirs ∧ t.joy.acts = s.joy.acts
    ∧ (s.bootRomEnabled = false → t.bootRomEnabled = false)
    ∧ (s.bank = .none ↔ t.bank = .none)
    ∧ ((∃ m, s.bank = .mbc1 m) ↔ ∃ m, t.bank = .mbc1 m) ∧ ((∃ m, s.bank = .mbc3 m) ↔ ∃ m, t.bank = .mbc3 m)
end

