-- ==== Sys2Proof/Laws/Bits.lean ====
section
/-! SUPPORT. The halves of a word (00_scope.md R9) and the flag register as a byte (10_state.md R33). -/
namespace Sys2Proof

theorem toNat_mk16 (h l : Byte) : (mk16 h l).toNat = h.toNat * 256 + l.toNat := by
  rw [mk16]
  refine (BitVec.toNat_append h l).trans ?_
  rw [← Nat.shiftLeft_add_eq_or_of_lt (by simpa using l.isLt), Nat.shiftLeft_eq]

theorem toNat_hiByte (v : Word) : (hiByte v).toNat = v.toNat / 256 := by
  have := v.isLt
  simp only [hiByte, BitVec.extractLsb'_toNat, Nat.shiftRight_eq_div_pow]; omega

theorem toNat_loByte (v : Word) : (loByte v).toNat = v.toNat % 256 := by
  simp [loByte, BitVec.extractLsb'_toNat]

@[simp] theorem hiByte_mk16 (h l : Byte) : hiByte (mk16 h l) = h := by
  apply BitVec.eq_of_toNat_eq; rw [toNat_hiByte, toNat_mk16]; omega

@[simp] theorem loByte_mk16 (h l : Byte) : loByte (mk16 h l) = l := by
  apply BitVec.eq_of_toNat_eq; rw [toNat_loByte, toNat_mk16]; omega

@[simp] theorem mk16_hiByte_loByte (v : Word) : mk16 (hiByte v) (loByte v) = v := by
  apply BitVec.eq_of_toNat_eq; rw [toNat_mk16, toNat_hiByte, toNat_loByte]; omega

namespace Machine

/-- A flag register survives the trip through its byte. -/
@[simp] theorem Flags.ofByte_toByte (f : Flags) : Flags.ofByte f.toByte = f := by
  rcases f with ⟨z, n, h, c⟩
  cases z <;> cases n <;> cases h <;> cases c <;> rfl

end Machine

end Sys2Proof
end

