-- ==== Sys2Proof/Laws/Store.lean ====
section
/-! SUPPORT. The laws of the backing stores: a write is read back, leaves every other index, keeps the canonical form and
the bound, and two canonical stores that read alike are equal. -/
namespace Sys2Proof.Store

variable {w : Nat}

@[simp] theorem read_nil (a : Nat) : read ([] : Store w) a = unlisted w := rfl

theorem read_cons (b : Nat) (x : BitVec w) (m : Store w) (a : Nat) :
    read ((b, x) :: m) a = if a = b then x else read m a := rfl

theorem wfFrom_cons (lo b : Nat) (x : BitVec w) (m : Store w) :
    wfFrom lo ((b, x) :: m) = true ↔ lo ≤ b ∧ x ≠ unlisted w ∧ wfFrom (b + 1) m = true := by
  simp [wfFrom, and_assoc]

theorem wfFrom_mono {lo lo' : Nat} {m : Store w} (h : wfFrom lo m = true) (hle : lo' ≤ lo) : wfFrom lo' m = true := by
  cases m with
  | nil => rfl
  | cons c m => rw [wfFrom_cons] at h ⊢; exact ⟨hle.trans h.1, h.2⟩

/-- Below the first index of a canonical store nothing is listed. -/
theorem read_of_lt {lo a : Nat} {m : Store w} (h : wfFrom lo m = true) (ha : a < lo) : read m a = unlisted w := by
  induction m generalizing lo with
  | nil => rfl
  | cons c m ih =>
    rw [wfFrom_cons] at h
    rw [read_cons, if_neg (by omega), ih h.2.2 (by omega)]

theorem read_put_ne {a b : Nat} (v : BitVec w) (m : Store w) (h : b ≠ a) : read (put a v m) b = read m b := by
  simp only [put]; split
  · rfl
  · rw [read_cons, if_neg h]

theorem read_put_same {a : Nat} (v : BitVec w) {m : Store w} (h : read m a = unlisted w) : read (put a v m) a = v := by
  simp only [put]; split
  · next hv => rw [h, hv]
  · rw [read_cons, if_pos rfl]

/-- A write leaves every other index as it was. -/
theorem read_write_ne (m : Store w) {a b : Nat} (v : BitVec w) (h : b ≠ a) : read (write m a v) b = read m b := by
  induction m with
  | nil => exact read_put_ne v [] h
  | cons c m ih =>
    simp only [write]; split
    · exact read_put_ne v _ h
    · split
      · next hab => rw [read_put_ne v m h, read_cons, if_neg (by omega)]
      · rw [read_cons, read_cons, ih]

/-- A write to a canonical store is read back. -/
theorem read_write_same_from {lo : Nat} {m : Store w} (hm : wfFrom lo m = true) (a : Nat) (v : BitVec w) :
    read (write m a v) a = v := by
  induction m generalizing lo with
  | nil => exact read_put_same v rfl
  | cons c m ih =>
    obtain ⟨b, x⟩ := c
    rw [wfFrom_cons] at hm
    simp only [write]; split
    · next hlt =>
      exact read_put_same v (read_of_lt (lo := b) ((wfFrom_cons ..).2 ⟨le_refl b, hm.2⟩) hlt)
    · split
      · next hab => exact read_put_same v (read_of_lt hm.2.2 (by omega))
      · next hne => rw [read_cons, if_neg hne, ih hm.2.2]

theorem read_write_same {m : Store w} (hm : wf m = true) (a : Nat) (v : BitVec w) : read (write m a v) a = v :=
  read_write_same_from hm a v

/-- Reading after a write to a canonical store. -/
theorem read_write {m : Store w} (hm : wf m = true) (a b : Nat) (v : BitVec w) :
    read (write m a v) b = if b = a then v else read m b := by
  split
  · next h => rw [h, read_write_same hm]
  · next h => exact read_write_ne m v h

theorem wfFrom_put {lo a : Nat} (v : BitVec w) {m : Store w} (hm : wfFrom (a + 1) m = true) (ha : lo ≤ a) :
    wfFrom lo (put a v m) = true := by
  simp only [put]; split
  · exact wfFrom_mono hm (by omega)
  · next hv => exact (wfFrom_cons ..).2 ⟨ha, hv, hm⟩

theorem wfFrom_write {lo a : Nat} {m : Store w} (hm : wfFrom lo m = true) (v : BitVec w) (ha : lo ≤ a) :
    wfFrom lo (write m a v) = true := by
  induction m generalizing lo with
  | nil => exact wfFrom_put v rfl ha
  | cons c m ih =>
    obtain ⟨b, x⟩ := c
    rw [wfFrom_cons] at hm
    simp only [write]; split
    · next hlt => exact wfFrom_put v ((wfFrom_cons ..).2 ⟨hlt, hm.2⟩) ha
    · split
      · next hab => exact wfFrom_put v (hab ▸ hm.2.2) ha
      · next hnlt hne => exact (wfFrom_cons ..).2 ⟨hm.1, hm.2.1, ih hm.2.2 (by omega)⟩

/-- A write keeps the canonical form. -/
theorem wf_write {m : Store w} (hm : wf m = true) (a : Nat) (v : BitVec w) : wf (write m a v) = true :=
  wfFrom_write hm v (Nat.zero_le a)

theorem below_cons (n b : Nat) (x : BitVec w) (m : Store w) :
    below n ((b, x) :: m) = true ↔ b < n ∧ below n m = true := by simp [below]

theorem below_put {n a : Nat} (v : BitVec w) {m : Store w} (hm : below n m = true) (ha : a < n) :
    below n (put a v m) = true := by
  simp only [put]; split
  · exact hm
  · exact (below_cons ..).2 ⟨ha, hm⟩

/-- A write inside the buffer keeps every index inside it. -/
theorem below_write {n a : Nat} {m : Store w} (hm : below n m = true) (v : BitVec w) (ha : a < n) :
    below n (write m a v) = true := by
  induction m with
  | nil => exact below_put v rfl ha
  | cons c m ih =>
    obtain ⟨b, x⟩ := c
    have h := (below_cons ..).1 hm
    simp only [write]; split
    · exact below_put v hm ha
    · split
      · exact below_put v h.2 ha
      · exact (below_cons ..).2 ⟨h.1, ih h.2⟩

/-- Canonical stores that read alike are the same list. -/
theorem ext_of_wf {lo : Nat} {m m' : Store w} (hm : wfFrom lo m = true) (hm' : wfFrom lo m' = true)
    (h : ∀ a, read m a = read m' a) : m = m' := by
  induction m generalizing lo m' with
  | nil =>
    cases m' with
    | nil => rfl
    | cons c m' =>
      have h' := (wfFrom_cons ..).1 hm'
      have hc := h c.1
      rw [read_cons, if_pos rfl] at hc
      exact absurd hc.symm h'.2.1
  | cons c m ih =>
    obtain ⟨b, x⟩ := c
    have hb := (wfFrom_cons ..).1 hm
    cases m' with
    | nil =>
      have hc := h b
      rw [read_cons, if_pos rfl] at hc
      exact absurd hc hb.2.1
    | cons c' m' =>
      obtain ⟨b', x'⟩ := c'
      have hb' := (wfFrom_cons ..).1 hm'
      have hbb : b = b' := by
        rcases lt_trichotomy b b' with hlt | heq | hlt
        · have hc := h b
          rw [read_cons, if_pos rfl, read_of_lt (lo := b') ((wfFrom_cons ..).2 ⟨le_refl _, hb'.2⟩) hlt] at hc
          exact absurd hc hb.2.1
        · exact heq
        · have hc := h b'
          rw [read_cons b' x', if_pos rfl, read_of_lt (lo := b) ((wfFrom_cons ..).2 ⟨le_refl _, hb.2⟩) hlt] at hc
          exact absurd hc.symm hb'.2.1
      subst hbb
      have hx : x = x' := by simpa [read_cons] using h b
      subst hx
      congr 1
      refine ih hb.2.2 hb'.2.2 fun a => ?_
      by_cases hab : a = b
      · rw [hab, read_of_lt hb.2.2 (by omega), read_of_lt hb'.2.2 (by omega)]
      · simpa [read_cons, hab] using h a

end Sys2Proof.Store
end

