-- ==== Sys2Proof/Laws/Bus.lean ====
section
/-! SUPPORT. The laws of the Bus: what an access depends on, what a write can change, and that every write keeps the state
legal (20_memory.md R106, R110, R111). -/
namespace Sys2Proof.Machine

/-- Decoding an address depends on the bank registers and the parameters only. -/
theorem locate_congr {s t : State} (hb : s.bank = t.bank) (hc : s.cfg = t.cfg) (a : Word) : locate s a = locate t a := by
  simp only [locate, locateNat, xramTarget, hb, hc]

/-- No read depends on the CPU registers. -/
@[simp] theorem memRead_cpu (s : State) (c : Cpu) (a : Word) : memRead { s with cpu := c } a = memRead s a := rfl

@[simp] theorem memRead_advance (n : Nat) (s : State) (a : Word) : memRead (advance n s) a = memRead s a := rfl
@[simp] theorem memRead_withCycles (n : Nat) (s : State) (a : Word) : memRead (withCycles n s) a = memRead s a := rfl
@[simp] theorem memRead_withPc (s : State) (v a : Word) : memRead (withPc s v) a = memRead s a := rfl
@[simp] theorem memRead_withSp (s : State) (v a : Word) : memRead (withSp s v) a = memRead s a := rfl
@[simp] theorem memRead_withA (s : State) (v : Byte) (a : Word) : memRead (withA s v) a = memRead s a := rfl
@[simp] theorem memRead_withFlags (s : State) (f : Flags) (a : Word) : memRead (withFlags s f) a = memRead s a := rfl
@[simp] theorem memRead_withPair (s : State) (p : Pair) (v a : Word) : memRead (withPair s p v) a = memRead s a := rfl
@[simp] theorem locate_cpu (s : State) (c : Cpu) (a : Word) : locate { s with cpu := c } a = locate s a := rfl

/-! ### What a write can change -/

/-- The parts of a state that no write to the Bus changes. -/
structure SameCore (s t : State) : Prop where
  cpu : t.cpu = s.cpu
  cfg : t.cfg = s.cfg
  status : t.status = s.status
  totalCycles : t.totalCycles = s.totalCycles
  stepCycles : t.stepCycles = s.stepCycles
  dirs : t.joy.dirs = s.joy.dirs
  acts : t.joy.acts = s.joy.acts
  fb : t.ppu.fb = s.ppu.fb
  frameReady : t.ppu.frameReady = s.ppu.frameReady

theorem SameCore.refl (s : State) : SameCore s s := ⟨rfl, rfl, rfl, rfl, rfl, rfl, rfl, rfl, rfl⟩

theorem SameCore.trans {s t u : State} (h : SameCore s t) (h' : SameCore t u) : SameCore s u :=
  ⟨h'.cpu.trans h.cpu, h'.cfg.trans h.cfg, h'.status.trans h.status, h'.totalCycles.trans h.totalCycles,
    h'.stepCycles.trans h.stepCycles, h'.dirs.trans h.dirs, h'.acts.trans h.acts, h'.fb.trans h.fb,
    h'.frameReady.trans h.frameReady⟩

/-- The edge rule changes the timer and the request bits only. -/
theorem timerEdge_eq (t : Timer) (s : State) :
    timerEdge t s = { s with timer := (timerEdge t s).timer, intr := (timerEdge t s).intr } := by
  simp only [timerEdge, timaIncrement, request]; split <;> (try split) <;> rfl

/-- A change of the joypad changes the request bits besides. -/
theorem joypadChange_eq (j : Joypad) (s : State) :
    joypadChange j s = { s with joy := j, intr := (joypadChange j s).intr } := by
  simp only [joypadChange, request]; split <;> rfl

/-- The DMA copy changes OAM only. -/
theorem dmaCopy_eq (page : Byte) (n i : Nat) (s : State) :
    dmaCopy page n i s = { s with oam := (dmaCopy page n i s).oam } := by
  induction n generalizing i s with
  | zero => rfl
  | succ n ih => rw [dmaCopy, ih]

/-- A write to LCDC changes the PPU only. -/
theorem writeLcdc_eq (v : Byte) (s : State) : writeLcdc v s = { s with ppu := (writeLcdc v s).ppu } := by
  simp only [writeLcdc]; split <;> rfl

theorem writeLcdc_fb (v : Byte) (s : State) : (writeLcdc v s).ppu.fb = s.ppu.fb := by
  simp only [writeLcdc]; split <;> rfl

theorem writeLcdc_frameReady (v : Byte) (s : State) : (writeLcdc v s).ppu.frameReady = s.ppu.frameReady := by
  simp only [writeLcdc]; split <;> rfl

theorem ioWrite_same (s : State) (r : IoReg) (v : Byte) : SameCore s (ioWrite s r v) := by
  cases r
  case p1 => simp only [ioWrite, writeP1]; rw [joypadChange_eq]; exact ⟨rfl, rfl, rfl, rfl, rfl, rfl, rfl, rfl, rfl⟩
  case div => simp only [ioWrite, resetDiv]; rw [timerEdge_eq]; exact ⟨rfl, rfl, rfl, rfl, rfl, rfl, rfl, rfl, rfl⟩
  case tac => simp only [ioWrite, writeTac]; rw [timerEdge_eq]; exact ⟨rfl, rfl, rfl, rfl, rfl, rfl, rfl, rfl, rfl⟩
  case lcdc =>
    simp only [ioWrite]
    have h1 := writeLcdc_fb v s
    have h2 := writeLcdc_frameReady v s
    rw [writeLcdc_eq]
    exact ⟨rfl, rfl, rfl, rfl, rfl, rfl, rfl, h1, h2⟩
  case dma => simp only [ioWrite, writeDma]; rw [dmaCopy_eq]; exact ⟨rfl, rfl, rfl, rfl, rfl, rfl, rfl, rfl, rfl⟩
  all_goals exact ⟨rfl, rfl, rfl, rfl, rfl, rfl, rfl, rfl, rfl⟩

theorem writeTarget_same (s : State) (x : Target) (v : Byte) : SameCore s (writeTarget s x v) := by
  cases x
  case io r => exact ioWrite_same s r v
  all_goals exact ⟨rfl, rfl, rfl, rfl, rfl, rfl, rfl, rfl, rfl⟩

/-- What no write changes. -/
theorem memWrite_same (s : State) (a : Word) (v : Byte) : SameCore s (memWrite s a v) := writeTarget_same s _ v

@[simp] theorem memWrite_cpu (s : State) (a : Word) (v : Byte) : (memWrite s a v).cpu = s.cpu := (memWrite_same s a v).cpu
@[simp] theorem memWrite_cfg (s : State) (a : Word) (v : Byte) : (memWrite s a v).cfg = s.cfg := (memWrite_same s a v).cfg
@[simp] theorem memWrite_status (s : State) (a : Word) (v : Byte) : (memWrite s a v).status = s.status :=
  (memWrite_same s a v).status
@[simp] theorem memWrite_totalCycles (s : State) (a : Word) (v : Byte) : (memWrite s a v).totalCycles = s.totalCycles :=
  (memWrite_same s a v).totalCycles
@[simp] theorem memWrite_stepCycles (s : State) (a : Word) (v : Byte) : (memWrite s a v).stepCycles = s.stepCycles :=
  (memWrite_same s a v).stepCycles

/-! ### A write commutes with a change of the CPU registers -/

theorem dmaCopy_cpu (page : Byte) (n i : Nat) (s : State) (c : Cpu) :
    dmaCopy page n i { s with cpu := c } = { dmaCopy page n i s with cpu := c } := by
  induction n generalizing i s with
  | zero => rfl
  | succ n ih => exact ih (i + 1) { s with oam := Store.write s.oam i (memRead s (mk16 page (BitVec.ofNat 8 i))) }

theorem timerEdge_cpu (t : Timer) (s : State) (c : Cpu) :
    timerEdge t { s with cpu := c } = { timerEdge t s with cpu := c } := by
  simp only [timerEdge, timaIncrement, request]; split <;> (try split) <;> rfl

theorem joypadChange_cpu (j : Joypad) (s : State) (c : Cpu) :
    joypadChange j { s with cpu := c } = { joypadChange j s with cpu := c } := by
  simp only [joypadChange, request]; split <;> rfl

theorem writeLcdc_cpu (v : Byte) (s : State) (c : Cpu) :
    writeLcdc v { s with cpu := c } = { writeLcdc v s with cpu := c } := by
  simp only [writeLcdc]; split <;> rfl

/-- The CPU registers do not matter to a write. -/
theorem memWrite_withCpu (s : State) (c : Cpu) (a : Word) (v : Byte) :
    memWrite { s with cpu := c } a v = { memWrite s a v with cpu := c } := by
  simp only [memWrite, locate_cpu]
  cases locate s a
  case io r =>
    cases r
    case p1 => exact joypadChange_cpu _ s c
    case div => exact timerEdge_cpu _ s c
    case tac => exact timerEdge_cpu _ s c
    case lcdc => exact writeLcdc_cpu v s c
    case dma => exact dmaCopy_cpu v 160 0 { s with ppu := { s.ppu with dma := v } } c
    all_goals rfl
  all_goals rfl

/-! ### Every write keeps the state legal -/

/-- The addresses that `locate` answers lie inside their buffers. -/
def Target.inRange (c : Config) : Target → Prop
  | .vram i => i < 0x2000
  | .xram i => i < c.ramSize
  | .wram i => i < 0x2000
  | .oam i => i < 160
  | .io (.inert k) => k < 0x80
  | .hram i => i < 127
  | _ => True

theorem ramOff_lt (c : Config) (bank o : Nat) (h : c.ramSize ≠ 0) : ramOff c bank o < c.ramSize :=
  Nat.mod_lt _ (Nat.pos_of_ne_zero h)

theorem xramTarget_inRange (s : State) (o : Nat) : (xramTarget s o).inRange s.cfg := by
  unfold xramTarget
  split
  · split
    · trivial
    · next h => exact ramOff_lt _ _ _ h
  · split
    · trivial
    · next h => exact ramOff_lt _ _ _ (by simp at h; exact h.2)
  · split
    · trivial
    · split
      · trivial
      · split
        · trivial
        · next h => exact ramOff_lt _ _ _ h

theorem ioReg_inRange (c : Config) {k : Nat} (h : k < 0x80) : (Target.io (ioReg k)).inRange c := by
  unfold ioReg; split <;> trivial

/-- The index an address is decoded to lies inside its buffer (R101). -/
theorem locate_inRange (s : State) (a : Word) : (locate s a).inRange s.cfg := by
  have ha := a.isLt
  unfold locate locateNat
  split
  · trivial
  split
  · simp only [Target.inRange]; omega
  split
  · exact xramTarget_inRange s _
  split
  · simp only [Target.inRange]; omega
  split
  · simp only [Target.inRange]; omega
  split
  · simp only [Target.inRange]; omega
  split
  · trivial
  split
  · next hk =>
    have hlt : a.toNat - 0xFF00 < 0x80 := by omega
    generalize a.toNat - 0xFF00 = k at hlt ⊢
    exact ioReg_inRange s.cfg hlt
  split
  · simp only [Target.inRange]; omega
  · trivial

/-- A state's stores, one by one. -/
theorem storesOk_iff (s : State) : s.storesOk = true ↔
    (Store.wf s.vram = true ∧ Store.below 0x2000 s.vram = true) ∧ (Store.wf s.wram = true ∧ Store.below 0x2000 s.wram = true)
    ∧ (Store.wf s.oam = true ∧ Store.below 160 s.oam = true) ∧ (Store.wf s.hram = true ∧ Store.below 127 s.hram = true)
    ∧ (Store.wf s.xram = true ∧ Store.below s.cfg.ramSize s.xram = true)
    ∧ (Store.wf s.io = true ∧ Store.below 0x80 s.io = true)
    ∧ (Store.wf s.ppu.fb = true ∧ Store.below 23040 s.ppu.fb = true) := by
  simp only [State.storesOk, Bool.and_eq_true]; tauto

theorem oam_storesOk (s : State) (i : Nat) (v : Byte) (h : s.storesOk = true) (hi : i < 160) :
    State.storesOk { s with oam := Store.write s.oam i v } = true := by
  rw [storesOk_iff] at h ⊢
  exact ⟨h.1, h.2.1, ⟨Store.wf_write h.2.2.1.1 _ _, Store.below_write h.2.2.1.2 _ hi⟩, h.2.2.2⟩

theorem dmaCopy_storesOk (page : Byte) (n i : Nat) (s : State) (h : s.storesOk = true) (hi : i + n ≤ 160) :
    (dmaCopy page n i s).storesOk = true := by
  induction n generalizing i s with
  | zero => exact h
  | succ n ih =>
    rw [dmaCopy]
    exact ih (i + 1) _ (oam_storesOk s i _ h (by omega)) (by omega)

theorem ioWrite_storesOk (s : State) (r : IoReg) (v : Byte) (h : s.storesOk = true)
    (hr : (Target.io r).inRange s.cfg) : (ioWrite s r v).storesOk = true := by
  cases r
  case p1 => simp only [ioWrite, writeP1]; rw [joypadChange_eq]; exact h
  case div => simp only [ioWrite, resetDiv]; rw [timerEdge_eq]; exact h
  case tac => simp only [ioWrite, writeTac]; rw [timerEdge_eq]; exact h
  case lcdc =>
    have h1 := writeLcdc_fb v s
    rw [storesOk_iff] at h ⊢
    simp only [ioWrite]
    rw [writeLcdc_eq]
    simpa only [h1] using h
  case dma =>
    exact dmaCopy_storesOk v 160 0 { s with ppu := { s.ppu with dma := v } } h (by omega)
  case inert k =>
    rw [storesOk_iff] at h ⊢
    exact ⟨h.1, h.2.1, h.2.2.1, h.2.2.2.1, h.2.2.2.2.1,
      ⟨Store.wf_write h.2.2.2.2.2.1.1 _ _, Store.below_write h.2.2.2.2.2.1.2 _ hr⟩, h.2.2.2.2.2.2⟩
  all_goals exact h

/-- Every write keeps every store canonical and inside its size. -/
theorem memWrite_storesOk (s : State) (a : Word) (v : Byte) (h : s.storesOk = true) : (memWrite s a v).storesOk = true := by
  have hr := locate_inRange s a
  simp only [memWrite]
  generalize locate s a = x at hr
  cases x
  case io r => exact ioWrite_storesOk s r v h hr
  case vram i =>
    rw [storesOk_iff] at h ⊢
    exact ⟨⟨Store.wf_write h.1.1 _ _, Store.below_write h.1.2 _ hr⟩, h.2⟩
  case wram i =>
    rw [storesOk_iff] at h ⊢
    exact ⟨h.1, ⟨Store.wf_write h.2.1.1 _ _, Store.below_write h.2.1.2 _ hr⟩, h.2.2⟩
  case oam i =>
    rw [storesOk_iff] at h ⊢
    exact ⟨h.1, h.2.1, ⟨Store.wf_write h.2.2.1.1 _ _, Store.below_write h.2.2.1.2 _ hr⟩, h.2.2.2⟩
  case hram i =>
    rw [storesOk_iff] at h ⊢
    exact ⟨h.1, h.2.1, h.2.2.1, ⟨Store.wf_write h.2.2.2.1.1 _ _, Store.below_write h.2.2.2.1.2 _ hr⟩, h.2.2.2.2⟩
  case xram i =>
    rw [storesOk_iff] at h ⊢
    exact ⟨h.1, h.2.1, h.2.2.1, h.2.2.2.1, ⟨Store.wf_write h.2.2.2.2.1.1 _ _, Store.below_write h.2.2.2.2.1.2 _ hr⟩,
      h.2.2.2.2.2⟩
  all_goals exact h

theorem writeLcdc_ppuOk (v : Byte) (s : State) (h : ppuOk s.ppu = true) : ppuOk (writeLcdc v s).ppu = true := by
  cases h1 : lcdOn s.ppu <;> cases h2 : v.getLsbD 7
  all_goals
    have e : ∀ p : Ppu, lcdOn { p with lcdc := v } = v.getLsbD 7 := fun _ => rfl
    simp only [writeLcdc, h1, h2]
    simp only [ppuOk, h1] at h
    rw [ppuOk]
  · rw [show lcdOn { s.ppu with lcdc := v } = false from h2]; exact h
  · rw [show lcdOn { s.ppu with lcdc := v, ly := 0, dot := 0, mode := .oamScan } = true from h2]; rfl
  · rw [show lcdOn { s.ppu with lcdc := v, ly := 0, dot := 0, mode := .hBlank } = false from h2]; rfl
  · rw [show lcdOn { s.ppu with lcdc := v } = true from h2]; exact h

theorem dmaCopy_ppu (page : Byte) (n i : Nat) (s : State) : (dmaCopy page n i s).ppu = s.ppu := by
  rw [dmaCopy_eq]

theorem ioWrite_ppuOk (s : State) (r : IoReg) (v : Byte) (h : ppuOk s.ppu = true) : ppuOk (ioWrite s r v).ppu = true := by
  cases r
  case p1 => simp only [ioWrite, writeP1]; rw [joypadChange_eq]; exact h
  case div => simp only [ioWrite, resetDiv]; rw [timerEdge_eq]; exact h
  case tac => simp only [ioWrite, writeTac]; rw [timerEdge_eq]; exact h
  case lcdc => exact writeLcdc_ppuOk v s h
  case dma => simp only [ioWrite, writeDma]; rw [dmaCopy_ppu]; exact h
  all_goals exact h

theorem memWrite_ppuOk (s : State) (a : Word) (v : Byte) (h : ppuOk s.ppu = true) :
    ppuOk (memWrite s a v).ppu = true := by
  simp only [memWrite]
  cases locate s a
  case io r => exact ioWrite_ppuOk s r v h
  all_goals exact h

/-- Legality, part by part. -/
theorem ok_iff (s : State) :
    s.ok = true ↔ s.storesOk = true ∧ Config.ok s.cfg = true ∧ ppuOk s.ppu = true ∧ controlOk s = true := by
  simp only [State.ok, Bool.and_eq_true, and_assoc]

/-- Every write keeps the state legal. -/
theorem memWrite_ok (s : State) (a : Word) (v : Byte) (h : s.ok = true) : (memWrite s a v).ok = true := by
  rw [ok_iff] at h ⊢
  refine ⟨memWrite_storesOk s a v h.1, ?_, memWrite_ppuOk s a v h.2.2.1, ?_⟩
  · rw [memWrite_cfg]; exact h.2.1
  · simp only [controlOk, memWrite_cpu, memWrite_cfg]; exact h.2.2.2

end Sys2Proof.Machine
end

