-- ==== Sys2Proof/Laws/Devices.lean ====
section
/-! SUPPORT. The laws of the Timer and the PPU: what a tick can change, and that every tick keeps the state legal
(60_exceptions.md R460 to R476). -/
namespace Sys2Proof.Machine

/-- An invariant of one iteration is one of all. -/
theorem iter_induct (P : State → Prop) (f : State → State) (hf : ∀ s, P s → P (f s)) (n : Nat) (s : State) (h : P s) :
    P (iter f n s) := by
  induction n generalizing s with
  | zero => exact h
  | succ n ih => exact ih (f s) (hf s h)

theorem iter_add (f : State → State) (m n : Nat) (s : State) : iter f (m + n) s = iter f n (iter f m s) := by
  induction m generalizing s with
  | zero => rw [Nat.zero_add]; rfl
  | succ m ih => rw [Nat.succ_add]; exact ih (f s)

/-! ### Timer -/

/-- A timer cycle changes the timer and the request bits only. -/
theorem timerTick_eq (s : State) :
    timerTick s = { s with timer := (timerTick s).timer, intr := (timerTick s).intr } := timerEdge_eq _ s

/-- Advancing the timer changes the timer and the request bits only. -/
theorem timerAdvance_eq (n : Nat) (s : State) :
    timerAdvance n s = { s with timer := (timerAdvance n s).timer, intr := (timerAdvance n s).intr } := by
  unfold timerAdvance
  induction n generalizing s with
  | zero => rfl
  | succ n ih =>
    rw [iter, ih (timerTick s), timerTick_eq s]

/-- The edge rule changes TIMA and the request bits, and stores the rest of the new timer. -/
theorem timerEdge_timer (t : Timer) (s : State) :
    (timerEdge t s).timer =
      { t with tima := if timerInput s.timer && !timerInput t then (if t.tima = 0xFF then t.tma else t.tima + 1) else t.tima } := by
  simp only [timerEdge, timaIncrement, request]; split
  · split <;> rfl
  · rfl

/-- The edge rule requests the Timer interrupt exactly on the overflow of an increment it makes. -/
theorem timerEdge_intr (t : Timer) (s : State) :
    (timerEdge t s).intr =
      if (timerInput s.timer && !timerInput t) = true ∧ t.tima = 0xFF then { s.intr with req := s.intr.req ||| 4#5 }
      else s.intr := by
  simp only [timerEdge, timaIncrement, request]; split
  · next h => split <;> simp_all
  · next h => simp [h]

@[simp] theorem timerTick_div (s : State) : (timerTick s).timer.div = s.timer.div + 1 := by
  rw [timerTick, timerEdge_timer]
@[simp] theorem timerTick_tac (s : State) : (timerTick s).timer.tac = s.timer.tac := by
  rw [timerTick, timerEdge_timer]
@[simp] theorem timerTick_tma (s : State) : (timerTick s).timer.tma = s.timer.tma := by
  rw [timerTick, timerEdge_timer]

/-! ### PPU -/

theorem enterMode_eq (m : PpuMode) (s : State) :
    enterMode m s = { s with ppu := { s.ppu with mode := m }, intr := (enterMode m s).intr } := by
  simp only [enterMode, request]; split <;> rfl

theorem lycCheck_eq (s : State) : lycCheck s = { s with intr := (lycCheck s).intr } := by
  simp only [lycCheck, request]; split <;> rfl

theorem enterMode_intr_ie (m : PpuMode) (s : State) : (enterMode m s).intr.ie = s.intr.ie := by
  simp only [enterMode, request]; split <;> rfl

theorem lycCheck_intr_ie (s : State) : (lycCheck s).intr.ie = s.intr.ie := by
  simp only [lycCheck, request]; split <;> rfl

@[simp] theorem enterMode_ppu (m : PpuMode) (s : State) : (enterMode m s).ppu = { s.ppu with mode := m } := by
  rw [enterMode_eq]

@[simp] theorem lycCheck_ppu (s : State) : (lycCheck s).ppu = s.ppu := by rw [lycCheck_eq]

/-- A mode entry requests LCD-STAT exactly when its STAT bit is set (R472). -/
theorem enterMode_req (m : PpuMode) (s : State) :
    (enterMode m s).intr.req = s.intr.req ||| (if modeRequests s.ppu.stat m then 2 else 0) := by
  simp only [enterMode, request]; split <;> simp

/-- The comparison with LYC requests LCD-STAT exactly when STAT bit 6 is set and the line is LYC (R475). -/
theorem lycCheck_req (s : State) :
    (lycCheck s).intr.req = s.intr.req ||| (if lyEqLyc s.ppu && s.ppu.stat.getLsbD 3 then 2 else 0) := by
  simp only [lycCheck, request]; split <;> simp

/-- The requests at the end of a scanline: LYC, then the mode entered, then VBlank on line 144 (R471, R476). -/
theorem nextLine_req (s : State) :
    (nextLine s).intr.req =
      let line := (s.ppu.ly + 1) % 154
      s.intr.req ||| (if line == s.ppu.lyc.toNat && s.ppu.stat.getLsbD 3 then 2 else 0)
        ||| (if line < 144 then (if modeRequests s.ppu.stat .oamScan then 2 else 0)
          else if line = 144 then (if modeRequests s.ppu.stat .vBlank then 2 else 0) ||| 1 else 0) := by
  simp only [nextLine]
  split
  · rw [enterMode_req, lycCheck_req]; simp [lyEqLyc]
  · split
    · simp only [request]; rw [enterMode_req, lycCheck_req]; simp [lyEqLyc, BitVec.or_assoc]
    · rw [lycCheck_req]; simp [lyEqLyc]

/-- The PPU after the end of a scanline. -/
theorem nextLine_ppu (s : State) :
    (nextLine s).ppu =
      { s.ppu with
        dot := 0, ly := (s.ppu.ly + 1) % 154,
        mode := if (s.ppu.ly + 1) % 154 < 144 then .oamScan else if (s.ppu.ly + 1) % 154 = 144 then .vBlank else s.ppu.mode,
        frameReady := if (s.ppu.ly + 1) % 154 = 144 then true else s.ppu.frameReady } := by
  simp only [nextLine]
  split
  · next h => rw [enterMode_eq, lycCheck_eq]; simp [Nat.ne_of_lt h]
  · next h =>
    split
    · next h' => simp only [request]; rw [enterMode_eq, lycCheck_eq]
    · next h' => rw [lycCheck_eq]

/-- The end of a scanline changes the PPU and the request bits only. -/
theorem nextLine_eq (s : State) : nextLine s = { s with ppu := (nextLine s).ppu, intr := (nextLine s).intr } := by
  simp only [nextLine]
  split
  · rw [enterMode_eq, lycCheck_eq]
  · split
    · simp only [request]; rw [enterMode_eq, lycCheck_eq]
    · rw [lycCheck_eq]

/-- A dot changes the PPU and the request bits only. -/
theorem ppuTick_eq (s : State) : ppuTick s = { s with ppu := (ppuTick s).ppu, intr := (ppuTick s).intr } := by
  simp only [ppuTick]
  split
  · split
    · simp only [renderLine]; rw [enterMode_eq]
    · split
      · rw [enterMode_eq]
      · split
        · rw [nextLine_eq]
        · rfl
  · rfl

/-- Advancing the PPU changes the PPU and the request bits only. -/
theorem ppuAdvance_eq (n : Nat) (s : State) :
    ppuAdvance n s = { s with ppu := (ppuAdvance n s).ppu, intr := (ppuAdvance n s).intr } := by
  unfold ppuAdvance
  induction n generalizing s with
  | zero => rfl
  | succ n ih => rw [iter, ih (ppuTick s), ppuTick_eq s]

/-- With the LCD off a dot changes nothing (R473). -/
theorem ppuTick_off (s : State) (h : lcdOn s.ppu = false) : ppuTick s = s := by
  simp only [ppuTick, h]; rfl

/-- A frame buffer is canonical and of 160 by 144 pixels. -/
def fbOk (fb : Store 2) : Prop := Store.wf fb = true ∧ Store.below 23040 fb = true

theorem renderColumns_ok (p : Ppu) (vram : Memory) (y n x : Nat) (fb : Store 2) (h : fbOk fb) (hx : x + n ≤ 160)
    (hy : y < 144) : fbOk (renderColumns p vram y n x fb) := by
  induction n generalizing x fb with
  | zero => exact h
  | succ n ih =>
    rw [renderColumns]
    exact ih (x + 1) _ ⟨Store.wf_write h.1 _ _, Store.below_write h.2 _ (by omega)⟩ (by omega)

/-- The scanline state machine after a dot with the LCD on, in a legal state (R471, R474). -/
theorem ppuTick_ppu (s : State) (hon : lcdOn s.ppu = true) (h : ppuOk s.ppu = true) :
    (ppuTick s).ppu.lcdc = s.ppu.lcdc
    ∧ (ppuTick s).ppu.ly = (if s.ppu.dot = 455 then (s.ppu.ly + 1) % 154 else s.ppu.ly)
    ∧ (ppuTick s).ppu.dot = (if s.ppu.dot = 455 then 0 else s.ppu.dot + 1)
    ∧ (ppuTick s).ppu.mode = modeAt (ppuTick s).ppu.ly (ppuTick s).ppu.dot
    ∧ (fbOk s.ppu.fb → fbOk (ppuTick s).ppu.fb) := by
  simp only [ppuOk, hon, if_true, Bool.and_eq_true, decide_eq_true_eq, beq_iff_eq] at h
  obtain ⟨⟨hly, hdot⟩, hmode⟩ := h
  simp only [ppuTick, hon, if_true]
  split
  · next h =>
    obtain ⟨h1, h2⟩ := h
    have hd : s.ppu.dot = 79 := by omega
    simp only [renderLine]
    rw [enterMode_eq]
    refine ⟨rfl, by simp [hd], by simp [hd], by simp [modeAt, hd]; omega, fun hfb => ?_⟩
    exact renderColumns_ok _ _ _ 160 0 _ hfb (by omega) h1
  · next hn80 =>
    split
    · next h =>
      obtain ⟨h1, h2⟩ := h
      have hd : s.ppu.dot = 251 := by omega
      rw [enterMode_eq]
      exact ⟨rfl, by simp [hd], by simp [hd], by simp [modeAt, hd]; omega, fun hfb => hfb⟩
    · next hn252 =>
      split
      · next h =>
        have hd : s.ppu.dot = 455 := by omega
        rw [nextLine_ppu]
        refine ⟨rfl, by simp [hd], by simp [hd], ?_, fun hfb => hfb⟩
        have hm : s.ppu.mode = modeAt s.ppu.ly s.ppu.dot := hmode
        simp only [hm, hd]
        by_cases h1 : (s.ppu.ly + 1) % 154 < 144
        · rw [if_pos h1, modeAt, if_neg (by omega)]; rfl
        · rw [if_neg h1, modeAt, modeAt, if_pos (show 144 ≤ (s.ppu.ly + 1) % 154 by omega)]
          split
          · rfl
          · rw [if_pos (by omega)]
      · next h =>
        have hd : s.ppu.dot ≠ 455 := by intro hd; apply h; simp [hd]
        refine ⟨rfl, by simp [hd], by simp [hd], ?_, fun hfb => hfb⟩
        simp only at hn80 hn252 h ⊢
        have hm : s.ppu.mode = modeAt s.ppu.ly s.ppu.dot := hmode
        rw [hm]
        have e1 : (s.ppu.dot + 1 < 80 ↔ s.ppu.dot < 80) ∨ 144 ≤ s.ppu.ly := by omega
        have e2 : (s.ppu.dot + 1 < 252 ↔ s.ppu.dot < 252) ∨ 144 ≤ s.ppu.ly := by omega
        simp only [modeAt]
        by_cases hv : 144 ≤ s.ppu.ly
        · rw [if_pos hv, if_pos hv]
        · simp only [if_neg hv, e1.resolve_right hv, e2.resolve_right hv]

/-- A dot keeps the PPU legal. -/
theorem ppuTick_ppuOk (s : State) (h : ppuOk s.ppu = true) : ppuOk (ppuTick s).ppu = true := by
  cases hon : lcdOn s.ppu
  · rw [ppuTick_off s hon]; exact h
  · obtain ⟨h1, h2, h3, h4, -⟩ := ppuTick_ppu s hon h
    have hon' : lcdOn (ppuTick s).ppu = true := by rw [lcdOn, h1]; exact hon
    simp only [ppuOk, hon, if_true, Bool.and_eq_true, decide_eq_true_eq, beq_iff_eq] at h
    simp only [ppuOk, hon', if_true, Bool.and_eq_true, decide_eq_true_eq, beq_iff_eq]
    refine ⟨⟨?_, ?_⟩, h4⟩
    · rw [h2]; split <;> omega
    · rw [h3]; split <;> omega

theorem ppuTick_fbOk (s : State) (h : ppuOk s.ppu = true) (hfb : fbOk s.ppu.fb) : fbOk (ppuTick s).ppu.fb := by
  cases hon : lcdOn s.ppu
  · rw [ppuTick_off s hon]; exact hfb
  · exact (ppuTick_ppu s hon h).2.2.2.2 hfb

/-- A dot keeps the state legal. -/
theorem ppuTick_ok (s : State) (h : s.ok = true) : (ppuTick s).ok = true := by
  rw [ok_iff, storesOk_iff] at h
  obtain ⟨⟨h1, h2, h3, h4, h5, h6, h7⟩, hc, hp, hk⟩ := h
  have hp' := ppuTick_ppuOk s hp
  have hf' := ppuTick_fbOk s hp h7
  rw [ok_iff, storesOk_iff]
  rw [ppuTick_eq]
  exact ⟨⟨h1, h2, h3, h4, h5, h6, hf'⟩, hc, hp', hk⟩

theorem timerEdge_ok (t : Timer) (s : State) (h : s.ok = true) : (timerEdge t s).ok = true := by
  rw [timerEdge_eq]; exact h

/-- The devices keep the state legal. -/
theorem advanceDevices_ok (s : State) (h : s.ok = true) : (advanceDevices s).ok = true := by
  have h1 : (timerAdvance s.stepCycles s).ok = true :=
    iter_induct (fun u => u.ok = true) timerTick (fun u hu => timerEdge_ok _ u hu) _ s h
  have h2 : (ppuAdvance s.stepCycles (timerAdvance s.stepCycles s)).ok = true :=
    iter_induct (fun u => u.ok = true) ppuTick ppuTick_ok _ _ h1
  exact h2

/-- What the devices leave: everything but the Timer, the PPU, the request bits and the cycle total. -/
theorem advanceDevices_eq (s : State) :
    advanceDevices s = { s with
      timer := (advanceDevices s).timer, ppu := (advanceDevices s).ppu, intr := (advanceDevices s).intr,
      totalCycles := s.totalCycles + s.stepCycles } := by
  simp only [advanceDevices]
  rw [ppuAdvance_eq, timerAdvance_eq]

/-- The advance of the devices as R400 writes it: Timer, then PPU, then the total. -/
theorem advanceDevices_run (s : State) :
    advanceDevices s =
      { ppuAdvance s.stepCycles (timerAdvance s.stepCycles s) with totalCycles := s.totalCycles + s.stepCycles } := by
  simp only [advanceDevices]; rw [ppuAdvance_eq, timerAdvance_eq]

/-- The memory after reset is in canonical form and in range. -/
theorem reset_storesOk : State.reset.storesOk = true := by decide

end Sys2Proof.Machine
end

