-- ==== Sys2Proof/Laws/Shape.lean ====
section
/-! SUPPORT. The shapes of the meanings: every instruction runs one of 35 shared operations, so that a property of every
instruction is proved by cases on the shape. -/
namespace Sys2Proof.Machine

/-- The shared operations, with what an instruction fixes of each. -/
inductive Shape where
  | ldReg (dst r : R8)
  | ldImm (dst : R8) (n : Byte)
  | ldFromHL (dst : R8)
  | ldToHL (r : R8)
  | stImmAtHL (n : Byte)
  | ldAFrom (len cycles : Nat) (addr : State → Word)
  | stAAt (len cycles : Nat) (addr : State → Word)
  | stAAtHLStep (k : Word)
  | ldAFromHLStep (k : Word)
  | ldPairImm (p : Pair) (nn : Word)
  | stSp (nn : Word)
  | ldSpHl
  | ldHlSp (e : Byte)
  | addSp (e : Byte)
  | push (p : Pair)
  | pop (p : Pair)
  | accReg (op : Flags → Byte → Byte → Byte × Flags) (r : R8)
  | accImm (op : Flags → Byte → Byte → Byte × Flags) (n : Byte)
  | stepReg (op : Flags → Byte → Byte × Flags) (r : R8)
  | acc (f : State → Byte × Flags)
  | addHL (p : Pair)
  | stepPair (k : Word) (p : Pair)
  | cbRot (op : Flags → Byte → Byte × Flags) (r : R8)
  | cbBit (b : Nat) (r : R8)
  | cbWrite (op : Byte → Byte) (r : R8)
  | jump (cond : Flags → Bool) (len taken notTaken : Nat) (target : State → Word)
  | call (cond : Flags → Bool) (len taken notTaken : Nat) (target : Word)
  | ret (cond : Flags → Bool) (taken notTaken : Nat)
  | reti
  | nop
  | di
  | ei
  | halt
  | stop (x : Byte)
  | undefined (op : Byte)

/-- What a shape does. -/
def Shape.run (i : Shape) (s : State) : Answer :=
  match i with
  | .ldReg dst r => Machine.ldReg dst r s
  | .ldImm dst n => Machine.ldImm dst n s
  | .ldFromHL dst => Machine.ldFromHL dst s
  | .ldToHL r => Machine.ldToHL r s
  | .stImmAtHL n => done 12 (wr8 (advance 2 s) .atHL n)
  | .ldAFrom len cycles addr => Machine.ldAFrom len cycles (addr s) s
  | .stAAt len cycles addr => Machine.stAAt len cycles (addr s) s
  | .stAAtHLStep k => Machine.stAAtHLStep k s
  | .ldAFromHLStep k => Machine.ldAFromHLStep k s
  | .ldPairImm p nn => done 12 (withPair (advance 3 s) p nn)
  | .stSp nn => done 20 (memWrite (memWrite (advance 3 s) nn (loByte s.cpu.sp)) (nn + 1) (hiByte s.cpu.sp))
  | .ldSpHl => done 8 (withSp (advance 1 s) (pair s .hl))
  | .ldHlSp e => done 12 (withFlags (withPair (advance 2 s) .hl (Machine.addSp s.cpu.sp e).1) (Machine.addSp s.cpu.sp e).2)
  | .addSp e => done 16 (withFlags (withSp (advance 2 s) (Machine.addSp s.cpu.sp e).1) (Machine.addSp s.cpu.sp e).2)
  | .push p => pushPair p s
  | .pop p => popPair p s
  | .accReg op r => Machine.accReg (op s.cpu.f) r s
  | .accImm op n => Machine.accImm (op s.cpu.f) n s
  | .stepReg op r => Machine.stepReg op r s
  | .acc f => done 4 (withFlags (withA (advance 1 s) (f s).1) (f s).2)
  | .addHL p => Machine.addHL p s
  | .stepPair k p => Machine.stepPair k p s
  | .cbRot op r => Machine.cbRot (op s.cpu.f) r s
  | .cbBit b r => Machine.cbBit b r s
  | .cbWrite op r => Machine.cbWrite op r s
  | .jump cond len taken notTaken target =>
    if cond s.cpu.f then done taken (withPc (advance len s) (target s)) else done notTaken (advance len s)
  | .call cond len taken notTaken target =>
    if cond s.cpu.f then done taken (callTo target (advance len s)) else done notTaken (advance len s)
  | .ret cond taken notTaken =>
    if cond s.cpu.f then done taken (returnTo (advance 1 s)) else done notTaken (advance 1 s)
  | .reti => done 16 (returnFromInterrupt (advance 1 s))
  | .nop => exec_nop s
  | .di => exec_di s
  | .ei => exec_ei s
  | .halt => exec_halt s
  | .stop x => exec_stop x s
  | .undefined op => exec_undefined op s

/-- The shape of an instruction. -/
def shapeOf (i : Instr) : Shape :=
  match i with
  | .nop => .nop
  | .ld_BC_d16 nn => .ldPairImm .bc nn
  | .ld_atBC_A => .stAAt 1 8 (fun s => (pair s .bc))
  | .inc_BC => .stepPair 1 .bc
  | .inc_B => .stepReg inc8 .b
  | .dec_B => .stepReg dec8 .b
  | .ld_B_d8 n => .ldImm .b n
  | .rlca => .acc (fun s => clearZ (rlc8 s.cpu.a))
  | .ld_at_a16_SP nn => .stSp nn
  | .add_HL_BC => .addHL .bc
  | .ld_A_atBC => .ldAFrom 1 8 (fun s => (pair s .bc))
  | .dec_BC => .stepPair (-1) .bc
  | .inc_C => .stepReg inc8 .c
  | .dec_C => .stepReg dec8 .c
  | .ld_C_d8 n => .ldImm .c n
  | .rrca => .acc (fun s => clearZ (rrc8 s.cpu.a))
  | .stop x => .stop x
  | .ld_DE_d16 nn => .ldPairImm .de nn
  | .ld_atDE_A => .stAAt 1 8 (fun s => (pair s .de))
  | .inc_DE => .stepPair 1 .de
  | .inc_D => .stepReg inc8 .d
  | .dec_D => .stepReg dec8 .d
  | .ld_D_d8 n => .ldImm .d n
  | .rla => .acc (fun s => clearZ (rl8 s.cpu.a s.cpu.f.c))
  | .jr_e8 e => .jump (fun _ => true) 2 12 12 (fun s => (advance 2 s).cpu.pc + sext16 e)
  | .add_HL_DE => .addHL .de
  | .ld_A_atDE => .ldAFrom 1 8 (fun s => (pair s .de))
  | .dec_DE => .stepPair (-1) .de
  | .inc_E => .stepReg inc8 .e
  | .dec_E => .stepReg dec8 .e
  | .ld_E_d8 n => .ldImm .e n
  | .rra => .acc (fun s => clearZ (rr8 s.cpu.a s.cpu.f.c))
  | .jr_NZ_e8 e => .jump (Cond.nz).holds 2 12 8 (fun s => (advance 2 s).cpu.pc + sext16 e)
  | .ld_HL_d16 nn => .ldPairImm .hl nn
  | .ld_atHLinc_A => .stAAtHLStep 1
  | .inc_HL => .stepPair 1 .hl
  | .inc_H => .stepReg inc8 .h
  | .dec_H => .stepReg dec8 .h
  | .ld_H_d8 n => .ldImm .h n
  | .daa => .acc (fun s => daa8 s.cpu.f s.cpu.a)
  | .jr_Z_e8 e => .jump (Cond.z).holds 2 12 8 (fun s => (advance 2 s).cpu.pc + sext16 e)
  | .add_HL_HL => .addHL .hl
  | .ld_A_atHLinc => .ldAFromHLStep 1
  | .dec_HL => .stepPair (-1) .hl
  | .inc_L => .stepReg inc8 .l
  | .dec_L => .stepReg dec8 .l
  | .ld_L_d8 n => .ldImm .l n
  | .cpl => .acc (fun s => (~~~s.cpu.a, { s.cpu.f with n := true, h := true }))
  | .jr_NC_e8 e => .jump (Cond.nc).holds 2 12 8 (fun s => (advance 2 s).cpu.pc + sext16 e)
  | .ld_SP_d16 nn => .ldPairImm .sp nn
  | .ld_atHLdec_A => .stAAtHLStep (-1)
  | .inc_SP => .stepPair 1 .sp
  | .inc_atHL => .stepReg inc8 .atHL
  | .dec_atHL => .stepReg dec8 .atHL
  | .ld_atHL_d8 n => .stImmAtHL n
  | .scf => .acc (fun s => (s.cpu.a, { s.cpu.f with n := false, h := false, c := true }))
  | .jr_C_e8 e => .jump (Cond.c).holds 2 12 8 (fun s => (advance 2 s).cpu.pc + sext16 e)
  | .add_HL_SP => .addHL .sp
  | .ld_A_atHLdec => .ldAFromHLStep (-1)
  | .dec_SP => .stepPair (-1) .sp
  | .inc_A => .stepReg inc8 .a
  | .dec_A => .stepReg dec8 .a
  | .ld_A_d8 n => .ldImm .a n
  | .ccf => .acc (fun s => (s.cpu.a, { s.cpu.f with n := false, h := false, c := !s.cpu.f.c }))
  | .ld_B_B => .ldReg .b .b
  | .ld_B_C => .ldReg .b .c
  | .ld_B_D => .ldReg .b .d
  | .ld_B_E => .ldReg .b .e
  | .ld_B_H => .ldReg .b .h
  | .ld_B_L => .ldReg .b .l
  | .ld_B_atHL => .ldFromHL .b
  | .ld_B_A => .ldReg .b .a
  | .ld_C_B => .ldReg .c .b
  | .ld_C_C => .ldReg .c .c
  | .ld_C_D => .ldReg .c .d
  | .ld_C_E => .ldReg .c .e
  | .ld_C_H => .ldReg .c .h
  | .ld_C_L => .ldReg .c .l
  | .ld_C_atHL => .ldFromHL .c
  | .ld_C_A => .ldReg .c .a
  | .ld_D_B => .ldReg .d .b
  | .ld_D_C => .ldReg .d .c
  | .ld_D_D => .ldReg .d .d
  | .ld_D_E => .ldReg .d .e
  | .ld_D_H => .ldReg .d .h
  | .ld_D_L => .ldReg .d .l
  | .ld_D_atHL => .ldFromHL .d
  | .ld_D_A => .ldReg .d .a
  | .ld_E_B => .ldReg .e .b
  | .ld_E_C => .ldReg .e .c
  | .ld_E_D => .ldReg .e .d
  | .ld_E_E => .ldReg .e .e
  | .ld_E_H => .ldReg .e .h
  | .ld_E_L => .ldReg .e .l
  | .ld_E_atHL => .ldFromHL .e
  | .ld_E_A => .ldReg .e .a
  | .ld_H_B => .ldReg .h .b
  | .ld_H_C => .ldReg .h .c
  | .ld_H_D => .ldReg .h .d
  | .ld_H_E => .ldReg .h .e
  | .ld_H_H => .ldReg .h .h
  | .ld_H_L => .ldReg .h .l
  | .ld_H_atHL => .ldFromHL .h
  | .ld_H_A => .ldReg .h .a
  | .ld_L_B => .ldReg .l .b
  | .ld_L_C => .ldReg .l .c
  | .ld_L_D => .ldReg .l .d
  | .ld_L_E => .ldReg .l .e
  | .ld_L_H => .ldReg .l .h
  | .ld_L_L => .ldReg .l .l
  | .ld_L_atHL => .ldFromHL .l
  | .ld_L_A => .ldReg .l .a
  | .ld_atHL_B => .ldToHL .b
  | .ld_atHL_C => .ldToHL .c
  | .ld_atHL_D => .ldToHL .d
  | .ld_atHL_E => .ldToHL .e
  | .ld_atHL_H => .ldToHL .h
  | .ld_atHL_L => .ldToHL .l
  | .halt => .halt
  | .ld_atHL_A => .ldToHL .a
  | .ld_A_B => .ldReg .a .b
  | .ld_A_C => .ldReg .a .c
  | .ld_A_D => .ldReg .a .d
  | .ld_A_E => .ldReg .a .e
  | .ld_A_H => .ldReg .a .h
  | .ld_A_L => .ldReg .a .l
  | .ld_A_atHL => .ldFromHL .a
  | .ld_A_A => .ldReg .a .a
  | .add_A_B => .accReg (fun _ => add8) .b
  | .add_A_C => .accReg (fun _ => add8) .c
  | .add_A_D => .accReg (fun _ => add8) .d
  | .add_A_E => .accReg (fun _ => add8) .e
  | .add_A_H => .accReg (fun _ => add8) .h
  | .add_A_L => .accReg (fun _ => add8) .l
  | .add_A_atHL => .accReg (fun _ => add8) .atHL
  | .add_A_A => .accReg (fun _ => add8) .a
  | .adc_A_B => .accReg (fun f a v => adc8 a v f.c) .b
  | .adc_A_C => .accReg (fun f a v => adc8 a v f.c) .c
  | .adc_A_D => .accReg (fun f a v => adc8 a v f.c) .d
  | .adc_A_E => .accReg (fun f a v => adc8 a v f.c) .e
  | .adc_A_H => .accReg (fun f a v => adc8 a v f.c) .h
  | .adc_A_L => .accReg (fun f a v => adc8 a v f.c) .l
  | .adc_A_atHL => .accReg (fun f a v => adc8 a v f.c) .atHL
  | .adc_A_A => .accReg (fun f a v => adc8 a v f.c) .a
  | .sub_B => .accReg (fun _ => sub8) .b
  | .sub_C => .accReg (fun _ => sub8) .c
  | .sub_D => .accReg (fun _ => sub8) .d
  | .sub_E => .accReg (fun _ => sub8) .e
  | .sub_H => .accReg (fun _ => sub8) .h
  | .sub_L => .accReg (fun _ => sub8) .l
  | .sub_atHL => .accReg (fun _ => sub8) .atHL
  | .sub_A => .accReg (fun _ => sub8) .a
  | .sbc_A_B => .accReg (fun f a v => sbc8 a v f.c) .b
  | .sbc_A_C => .accReg (fun f a v => sbc8 a v f.c) .c
  | .sbc_A_D => .accReg (fun f a v => sbc8 a v f.c) .d
  | .sbc_A_E => .accReg (fun f a v => sbc8 a v f.c) .e
  | .sbc_A_H => .accReg (fun f a v => sbc8 a v f.c) .h
  | .sbc_A_L => .accReg (fun f a v => sbc8 a v f.c) .l
  | .sbc_A_atHL => .accReg (fun f a v => sbc8 a v f.c) .atHL
  | .sbc_A_A => .accReg (fun f a v => sbc8 a v f.c) .a
  | .and_B => .accReg (fun _ => and8) .b
  | .and_C => .accReg (fun _ => and8) .c
  | .and_D => .accReg (fun _ => and8) .d
  | .and_E => .accReg (fun _ => and8) .e
  | .and_H => .accReg (fun _ => and8) .h
  | .and_L => .accReg (fun _ => and8) .l
  | .and_atHL => .accReg (fun _ => and8) .atHL
  | .and_A => .accReg (fun _ => and8) .a
  | .xor_B => .accReg (fun _ => xor8) .b
  | .xor_C => .accReg (fun _ => xor8) .c
  | .xor_D => .accReg (fun _ => xor8) .d
  | .xor_E => .accReg (fun _ => xor8) .e
  | .xor_H => .accReg (fun _ => xor8) .h
  | .xor_L => .accReg (fun _ => xor8) .l
  | .xor_atHL => .accReg (fun _ => xor8) .atHL
  | .xor_A => .accReg (fun _ => xor8) .a
  | .or_B => .accReg (fun _ => or8) .b
  | .or_C => .accReg (fun _ => or8) .c
  | .or_D => .accReg (fun _ => or8) .d
  | .or_E => .accReg (fun _ => or8) .e
  | .or_H => .accReg (fun _ => or8) .h
  | .or_L => .accReg (fun _ => or8) .l
  | .or_atHL => .accReg (fun _ => or8) .atHL
  | .or_A => .accReg (fun _ => or8) .a
  | .cp_B => .accReg (fun _ => cp8) .b
  | .cp_C => .accReg (fun _ => cp8) .c
  | .cp_D => .accReg (fun _ => cp8) .d
  | .cp_E => .accReg (fun _ => cp8) .e
  | .cp_H => .accReg (fun _ => cp8) .h
  | .cp_L => .accReg (fun _ => cp8) .l
  | .cp_atHL => .accReg (fun _ => cp8) .atHL
  | .cp_A => .accReg (fun _ => cp8) .a
  | .ret_NZ => .ret (Cond.nz).holds 20 8
  | .pop_BC => .pop .bc
  | .jp_NZ_a16 nn => .jump (Cond.nz).holds 3 16 12 (fun _ => nn)
  | .jp_a16 nn => .jump (fun _ => true) 3 16 16 (fun _ => nn)
  | .call_NZ_a16 nn => .call (Cond.nz).holds 3 24 12 nn
  | .push_BC => .push .bc
  | .add_A_d8 n => .accImm (fun _ => add8) n
  | .rst_00 => .call (fun _ => true) 1 16 16 (zext16 0x00)
  | .ret_Z => .ret (Cond.z).holds 20 8
  | .ret => .ret (fun _ => true) 16 16
  | .jp_Z_a16 nn => .jump (Cond.z).holds 3 16 12 (fun _ => nn)
  | .call_Z_a16 nn => .call (Cond.z).holds 3 24 12 nn
  | .call_a16 nn => .call (fun _ => true) 3 24 24 nn
  | .adc_A_d8 n => .accImm (fun f a v => adc8 a v f.c) n
  | .rst_08 => .call (fun _ => true) 1 16 16 (zext16 0x08)
  | .ret_NC => .ret (Cond.nc).holds 20 8
  | .pop_DE => .pop .de
  | .jp_NC_a16 nn => .jump (Cond.nc).holds 3 16 12 (fun _ => nn)
  | .undefined op => .undefined op
  | .call_NC_a16 nn => .call (Cond.nc).holds 3 24 12 nn
  | .push_DE => .push .de
  | .sub_d8 n => .accImm (fun _ => sub8) n
  | .rst_10 => .call (fun _ => true) 1 16 16 (zext16 0x10)
  | .ret_C => .ret (Cond.c).holds 20 8
  | .reti => .reti
  | .jp_C_a16 nn => .jump (Cond.c).holds 3 16 12 (fun _ => nn)
  | .call_C_a16 nn => .call (Cond.c).holds 3 24 12 nn
  | .sbc_A_d8 n => .accImm (fun f a v => sbc8 a v f.c) n
  | .rst_18 => .call (fun _ => true) 1 16 16 (zext16 0x18)
  | .ldh_at_a8_A n => .stAAt 2 12 (fun _ => (highPage n))
  | .pop_HL => .pop .hl
  | .ld_atC_A => .stAAt 1 8 (fun s => (highPage s.cpu.c))
  | .push_HL => .push .hl
  | .and_d8 n => .accImm (fun _ => and8) n
  | .rst_20 => .call (fun _ => true) 1 16 16 (zext16 0x20)
  | .add_SP_e8 e => .addSp e
  | .jp_atHL => .jump (fun _ => true) 1 4 4 (fun s => pair s .hl)
  | .ld_at_a16_A nn => .stAAt 3 16 (fun _ => nn)
  | .xor_d8 n => .accImm (fun _ => xor8) n
  | .rst_28 => .call (fun _ => true) 1 16 16 (zext16 0x28)
  | .ldh_A_at_a8 n => .ldAFrom 2 12 (fun _ => (highPage n))
  | .pop_AF => .pop .af
  | .ld_A_atC => .ldAFrom 1 8 (fun s => (highPage s.cpu.c))
  | .di => .di
  | .push_AF => .push .af
  | .or_d8 n => .accImm (fun _ => or8) n
  | .rst_30 => .call (fun _ => true) 1 16 16 (zext16 0x30)
  | .ld_HL_SP_e8 e => .ldHlSp e
  | .ld_SP_HL => .ldSpHl
  | .ld_A_at_a16 nn => .ldAFrom 3 16 (fun _ => nn)
  | .ei => .ei
  | .cp_d8 n => .accImm (fun _ => cp8) n
  | .rst_38 => .call (fun _ => true) 1 16 16 (zext16 0x38)
  | .rlc_B => .cbRot (fun _ => rlc8) .b
  | .rlc_C => .cbRot (fun _ => rlc8) .c
  | .rlc_D => .cbRot (fun _ => rlc8) .d
  | .rlc_E => .cbRot (fun _ => rlc8) .e
  | .rlc_H => .cbRot (fun _ => rlc8) .h
  | .rlc_L => .cbRot (fun _ => rlc8) .l
  | .rlc_atHL => .cbRot (fun _ => rlc8) .atHL
  | .rlc_A => .cbRot (fun _ => rlc8) .a
  | .rrc_B => .cbRot (fun _ => rrc8) .b
  | .rrc_C => .cbRot (fun _ => rrc8) .c
  | .rrc_D => .cbRot (fun _ => rrc8) .d
  | .rrc_E => .cbRot (fun _ => rrc8) .e
  | .rrc_H => .cbRot (fun _ => rrc8) .h
  | .rrc_L => .cbRot (fun _ => rrc8) .l
  | .rrc_atHL => .cbRot (fun _ => rrc8) .atHL
  | .rrc_A => .cbRot (fun _ => rrc8) .a
  | .rl_B => .cbRot (fun f v => rl8 v f.c) .b
  | .rl_C => .cbRot (fun f v => rl8 v f.c) .c
  | .rl_D => .cbRot (fun f v => rl8 v f.c) .d
  | .rl_E => .cbRot (fun f v => rl8 v f.c) .e
  | .rl_H => .cbRot (fun f v => rl8 v f.c) .h
  | .rl_L => .cbRot (fun f v => rl8 v f.c) .l
  | .rl_atHL => .cbRot (fun f v => rl8 v f.c) .atHL
  | .rl_A => .cbRot (fun f v => rl8 v f.c) .a
  | .rr_B => .cbRot (fun f v => rr8 v f.c) .b
  | .rr_C => .cbRot (fun f v => rr8 v f.c) .c
  | .rr_D => .cbRot (fun f v => rr8 v f.c) .d
  | .rr_E => .cbRot (fun f v => rr8 v f.c) .e
  | .rr_H => .cbRot (fun f v => rr8 v f.c) .h
  | .rr_L => .cbRot (fun f v => rr8 v f.c) .l
  | .rr_atHL => .cbRot (fun f v => rr8 v f.c) .atHL
  | .rr_A => .cbRot (fun f v => rr8 v f.c) .a
  | .sla_B => .cbRot (fun _ => sla8) .b
  | .sla_C => .cbRot (fun _ => sla8) .c
  | .sla_D => .cbRot (fun _ => sla8) .d
  | .sla_E => .cbRot (fun _ => sla8) .e
  | .sla_H => .cbRot (fun _ => sla8) .h
  | .sla_L => .cbRot (fun _ => sla8) .l
  | .sla_atHL => .cbRot (fun _ => sla8) .atHL
  | .sla_A => .cbRot (fun _ => sla8) .a
  | .sra_B => .cbRot (fun _ => sra8) .b
  | .sra_C => .cbRot (fun _ => sra8) .c
  | .sra_D => .cbRot (fun _ => sra8) .d
  | .sra_E => .cbRot (fun _ => sra8) .e
  | .sra_H => .cbRot (fun _ => sra8) .h
  | .sra_L => .cbRot (fun _ => sra8) .l
  | .sra_atHL => .cbRot (fun _ => sra8) .atHL
  | .sra_A => .cbRot (fun _ => sra8) .a
  | .swap_B => .cbRot (fun _ => swap8) .b
  | .swap_C => .cbRot (fun _ => swap8) .c
  | .swap_D => .cbRot (fun _ => swap8) .d
  | .swap_E => .cbRot (fun _ => swap8) .e
  | .swap_H => .cbRot (fun _ => swap8) .h
  | .swap_L => .cbRot (fun _ => swap8) .l
  | .swap_atHL => .cbRot (fun _ => swap8) .atHL
  | .swap_A => .cbRot (fun _ => swap8) .a
  | .srl_B => .cbRot (fun _ => srl8) .b
  | .srl_C => .cbRot (fun _ => srl8) .c
  | .srl_D => .cbRot (fun _ => srl8) .d
  | .srl_E => .cbRot (fun _ => srl8) .e
  | .srl_H => .cbRot (fun _ => srl8) .h
  | .srl_L => .cbRot (fun _ => srl8) .l
  | .srl_atHL => .cbRot (fun _ => srl8) .atHL
  | .srl_A => .cbRot (fun _ => srl8) .a
  | .bit_0_B => .cbBit 0 .b
  | .bit_0_C => .cbBit 0 .c
  | .bit_0_D => .cbBit 0 .d
  | .bit_0_E => .cbBit 0 .e
  | .bit_0_H => .cbBit 0 .h
  | .bit_0_L => .cbBit 0 .l
  | .bit_0_atHL => .cbBit 0 .atHL
  | .bit_0_A => .cbBit 0 .a
  | .bit_1_B => .cbBit 1 .b
  | .bit_1_C => .cbBit 1 .c
  | .bit_1_D => .cbBit 1 .d
  | .bit_1_E => .cbBit 1 .e
  | .bit_1_H => .cbBit 1 .h
  | .bit_1_L => .cbBit 1 .l
  | .bit_1_atHL => .cbBit 1 .atHL
  | .bit_1_A => .cbBit 1 .a
  | .bit_2_B => .cbBit 2 .b
  | .bit_2_C => .cbBit 2 .c
  | .bit_2_D => .cbBit 2 .d
  | .bit_2_E => .cbBit 2 .e
  | .bit_2_H => .cbBit 2 .h
  | .bit_2_L => .cbBit 2 .l
  | .bit_2_atHL => .cbBit 2 .atHL
  | .bit_2_A => .cbBit 2 .a
  | .bit_3_B => .cbBit 3 .b
  | .bit_3_C => .cbBit 3 .c
  | .bit_3_D => .cbBit 3 .d
  | .bit_3_E => .cbBit 3 .e
  | .bit_3_H => .cbBit 3 .h
  | .bit_3_L => .cbBit 3 .l
  | .bit_3_atHL => .cbBit 3 .atHL
  | .bit_3_A => .cbBit 3 .a
  | .bit_4_B => .cbBit 4 .b
  | .bit_4_C => .cbBit 4 .c
  | .bit_4_D => .cbBit 4 .d
  | .bit_4_E => .cbBit 4 .e
  | .bit_4_H => .cbBit 4 .h
  | .bit_4_L => .cbBit 4 .l
  | .bit_4_atHL => .cbBit 4 .atHL
  | .bit_4_A => .cbBit 4 .a
  | .bit_5_B => .cbBit 5 .b
  | .bit_5_C => .cbBit 5 .c
  | .bit_5_D => .cbBit 5 .d
  | .bit_5_E => .cbBit 5 .e
  | .bit_5_H => .cbBit 5 .h
  | .bit_5_L => .cbBit 5 .l
  | .bit_5_atHL => .cbBit 5 .atHL
  | .bit_5_A => .cbBit 5 .a
  | .bit_6_B => .cbBit 6 .b
  | .bit_6_C => .cbBit 6 .c
  | .bit_6_D => .cbBit 6 .d
  | .bit_6_E => .cbBit 6 .e
  | .bit_6_H => .cbBit 6 .h
  | .bit_6_L => .cbBit 6 .l
  | .bit_6_atHL => .cbBit 6 .atHL
  | .bit_6_A => .cbBit 6 .a
  | .bit_7_B => .cbBit 7 .b
  | .bit_7_C => .cbBit 7 .c
  | .bit_7_D => .cbBit 7 .d
  | .bit_7_E => .cbBit 7 .e
  | .bit_7_H => .cbBit 7 .h
  | .bit_7_L => .cbBit 7 .l
  | .bit_7_atHL => .cbBit 7 .atHL
  | .bit_7_A => .cbBit 7 .a
  | .res_0_B => .cbWrite (resBit 0) .b
  | .res_0_C => .cbWrite (resBit 0) .c
  | .res_0_D => .cbWrite (resBit 0) .d
  | .res_0_E => .cbWrite (resBit 0) .e
  | .res_0_H => .cbWrite (resBit 0) .h
  | .res_0_L => .cbWrite (resBit 0) .l
  | .res_0_atHL => .cbWrite (resBit 0) .atHL
  | .res_0_A => .cbWrite (resBit 0) .a
  | .res_1_B => .cbWrite (resBit 1) .b
  | .res_1_C => .cbWrite (resBit 1) .c
  | .res_1_D => .cbWrite (resBit 1) .d
  | .res_1_E => .cbWrite (resBit 1) .e
  | .res_1_H => .cbWrite (resBit 1) .h
  | .res_1_L => .cbWrite (resBit 1) .l
  | .res_1_atHL => .cbWrite (resBit 1) .atHL
  | .res_1_A => .cbWrite (resBit 1) .a
  | .res_2_B => .cbWrite (resBit 2) .b
  | .res_2_C => .cbWrite (resBit 2) .c
  | .res_2_D => .cbWrite (resBit 2) .d
  | .res_2_E => .cbWrite (resBit 2) .e
  | .res_2_H => .cbWrite (resBit 2) .h
  | .res_2_L => .cbWrite (resBit 2) .l
  | .res_2_atHL => .cbWrite (resBit 2) .atHL
  | .res_2_A => .cbWrite (resBit 2) .a
  | .res_3_B => .cbWrite (resBit 3) .b
  | .res_3_C => .cbWrite (resBit 3) .c
  | .res_3_D => .cbWrite (resBit 3) .d
  | .res_3_E => .cbWrite (resBit 3) .e
  | .res_3_H => .cbWrite (resBit 3) .h
  | .res_3_L => .cbWrite (resBit 3) .l
  | .res_3_atHL => .cbWrite (resBit 3) .atHL
  | .res_3_A => .cbWrite (resBit 3) .a
  | .res_4_B => .cbWrite (resBit 4) .b
  | .res_4_C => .cbWrite (resBit 4) .c
  | .res_4_D => .cbWrite (resBit 4) .d
  | .res_4_E => .cbWrite (resBit 4) .e
  | .res_4_H => .cbWrite (resBit 4) .h
  | .res_4_L => .cbWrite (resBit 4) .l
  | .res_4_atHL => .cbWrite (resBit 4) .atHL
  | .res_4_A => .cbWrite (resBit 4) .a
  | .res_5_B => .cbWrite (resBit 5) .b
  | .res_5_C => .cbWrite (resBit 5) .c
  | .res_5_D => .cbWrite (resBit 5) .d
  | .res_5_E => .cbWrite (resBit 5) .e
  | .res_5_H => .cbWrite (resBit 5) .h
  | .res_5_L => .cbWrite (resBit 5) .l
  | .res_5_atHL => .cbWrite (resBit 5) .atHL
  | .res_5_A => .cbWrite (resBit 5) .a
  | .res_6_B => .cbWrite (resBit 6) .b
  | .res_6_C => .cbWrite (resBit 6) .c
  | .res_6_D => .cbWrite (resBit 6) .d
  | .res_6_E => .cbWrite (resBit 6) .e
  | .res_6_H => .cbWrite (resBit 6) .h
  | .res_6_L => .cbWrite (resBit 6) .l
  | .res_6_atHL => .cbWrite (resBit 6) .atHL
  | .res_6_A => .cbWrite (resBit 6) .a
  | .res_7_B => .cbWrite (resBit 7) .b
  | .res_7_C => .cbWrite (resBit 7) .c
  | .res_7_D => .cbWrite (resBit 7) .d
  | .res_7_E => .cbWrite (resBit 7) .e
  | .res_7_H => .cbWrite (resBit 7) .h
  | .res_7_L => .cbWrite (resBit 7) .l
  | .res_7_atHL => .cbWrite (resBit 7) .atHL
  | .res_7_A => .cbWrite (resBit 7) .a
  | .set_0_B => .cbWrite (setBit 0) .b
  | .set_0_C => .cbWrite (setBit 0) .c
  | .set_0_D => .cbWrite (setBit 0) .d
  | .set_0_E => .cbWrite (setBit 0) .e
  | .set_0_H => .cbWrite (setBit 0) .h
  | .set_0_L => .cbWrite (setBit 0) .l
  | .set_0_atHL => .cbWrite (setBit 0) .atHL
  | .set_0_A => .cbWrite (setBit 0) .a
  | .set_1_B => .cbWrite (setBit 1) .b
  | .set_1_C => .cbWrite (setBit 1) .c
  | .set_1_D => .cbWrite (setBit 1) .d
  | .set_1_E => .cbWrite (setBit 1) .e
  | .set_1_H => .cbWrite (setBit 1) .h
  | .set_1_L => .cbWrite (setBit 1) .l
  | .set_1_atHL => .cbWrite (setBit 1) .atHL
  | .set_1_A => .cbWrite (setBit 1) .a
  | .set_2_B => .cbWrite (setBit 2) .b
  | .set_2_C => .cbWrite (setBit 2) .c
  | .set_2_D => .cbWrite (setBit 2) .d
  | .set_2_E => .cbWrite (setBit 2) .e
  | .set_2_H => .cbWrite (setBit 2) .h
  | .set_2_L => .cbWrite (setBit 2) .l
  | .set_2_atHL => .cbWrite (setBit 2) .atHL
  | .set_2_A => .cbWrite (setBit 2) .a
  | .set_3_B => .cbWrite (setBit 3) .b
  | .set_3_C => .cbWrite (setBit 3) .c
  | .set_3_D => .cbWrite (setBit 3) .d
  | .set_3_E => .cbWrite (setBit 3) .e
  | .set_3_H => .cbWrite (setBit 3) .h
  | .set_3_L => .cbWrite (setBit 3) .l
  | .set_3_atHL => .cbWrite (setBit 3) .atHL
  | .set_3_A => .cbWrite (setBit 3) .a
  | .set_4_B => .cbWrite (setBit 4) .b
  | .set_4_C => .cbWrite (setBit 4) .c
  | .set_4_D => .cbWrite (setBit 4) .d
  | .set_4_E => .cbWrite (setBit 4) .e
  | .set_4_H => .cbWrite (setBit 4) .h
  | .set_4_L => .cbWrite (setBit 4) .l
  | .set_4_atHL => .cbWrite (setBit 4) .atHL
  | .set_4_A => .cbWrite (setBit 4) .a
  | .set_5_B => .cbWrite (setBit 5) .b
  | .set_5_C => .cbWrite (setBit 5) .c
  | .set_5_D => .cbWrite (setBit 5) .d
  | .set_5_E => .cbWrite (setBit 5) .e
  | .set_5_H => .cbWrite (setBit 5) .h
  | .set_5_L => .cbWrite (setBit 5) .l
  | .set_5_atHL => .cbWrite (setBit 5) .atHL
  | .set_5_A => .cbWrite (setBit 5) .a
  | .set_6_B => .cbWrite (setBit 6) .b
  | .set_6_C => .cbWrite (setBit 6) .c
  | .set_6_D => .cbWrite (setBit 6) .d
  | .set_6_E => .cbWrite (setBit 6) .e
  | .set_6_H => .cbWrite (setBit 6) .h
  | .set_6_L => .cbWrite (setBit 6) .l
  | .set_6_atHL => .cbWrite (setBit 6) .atHL
  | .set_6_A => .cbWrite (setBit 6) .a
  | .set_7_B => .cbWrite (setBit 7) .b
  | .set_7_C => .cbWrite (setBit 7) .c
  | .set_7_D => .cbWrite (setBit 7) .d
  | .set_7_E => .cbWrite (setBit 7) .e
  | .set_7_H => .cbWrite (setBit 7) .h
  | .set_7_L => .cbWrite (setBit 7) .l
  | .set_7_atHL => .cbWrite (setBit 7) .atHL
  | .set_7_A => .cbWrite (setBit 7) .a

/-- Every instruction runs its shape. -/
theorem exec_eq_run (i : Instr) (s : State) : exec i s = (shapeOf i).run s := by
  cases i <;> rfl

end Sys2Proof.Machine
end

