-- ==== Sys2Proof/Laws/Effect.lean ====
section
/-! SUPPORT. What an instruction can do, said once: it stores a list of bytes, then writes CPU registers and its cycle count,
and nothing else. STOP and the undefined bytes have lemmas of their own. -/
namespace Sys2Proof.Machine

/-- Stores the bytes `ws` in their order. -/
def storeAll : List (Word × Byte) → State → State
  | [], s => s
  | w :: ws, s => storeAll ws (memWrite s w.1 w.2)

/-- `t` is `s` after the stores `ws`, but for the CPU registers and the cycle count. -/
def Effect (ws : List (Word × Byte)) (s t : State) : Prop :=
  t = { storeAll ws s with cpu := t.cpu, stepCycles := t.stepCycles }

theorem storeAll_cpu (ws : List (Word × Byte)) (s : State) (c : Cpu) :
    storeAll ws { s with cpu := c } = { storeAll ws s with cpu := c } := by
  induction ws generalizing s with
  | nil => rfl
  | cons w ws ih => simp only [storeAll]; rw [memWrite_withCpu, ih]

/-- What no list of stores changes. -/
theorem storeAll_same (ws : List (Word × Byte)) (s : State) : SameCore s (storeAll ws s) := by
  induction ws generalizing s with
  | nil => exact SameCore.refl s
  | cons w ws ih => exact (memWrite_same s w.1 w.2).trans (ih _)

/-- Stores keep the state legal. -/
theorem storeAll_ok (ws : List (Word × Byte)) (s : State) (h : s.ok = true) : (storeAll ws s).ok = true := by
  induction ws generalizing s with
  | nil => exact h
  | cons w ws ih => exact ih _ (memWrite_ok s w.1 w.2 h)

/-- Only CPU registers and the cycle count changed: no store. -/
theorem Effect.ofCpu {s t : State} (h : t = { s with cpu := t.cpu, stepCycles := t.stepCycles }) : Effect [] s t := h

/-- A change of CPU registers and cycles after some stores. -/
theorem Effect.cpu {ws : List (Word × Byte)} {s t : State} (h : Effect ws s t) (c : Cpu) (n : Nat) :
    Effect ws s { t with cpu := c, stepCycles := n } := by
  simp only [Effect] at h ⊢
  generalize t.cpu = c' at h
  generalize t.stepCycles = n' at h
  subst h; rfl

theorem Effect.withCycles {ws : List (Word × Byte)} {s t : State} (h : Effect ws s t) (n : Nat) :
    Effect ws s (withCycles n t) := h.cpu t.cpu n
theorem Effect.withFlags {ws : List (Word × Byte)} {s t : State} (h : Effect ws s t) (f : Flags) :
    Effect ws s (withFlags t f) := h.cpu { t.cpu with f := f } t.stepCycles
theorem Effect.withA {ws : List (Word × Byte)} {s t : State} (h : Effect ws s t) (v : Byte) :
    Effect ws s (withA t v) := h.cpu { t.cpu with a := v } t.stepCycles
theorem Effect.withPc {ws : List (Word × Byte)} {s t : State} (h : Effect ws s t) (v : Word) :
    Effect ws s (withPc t v) := h.cpu { t.cpu with pc := v } t.stepCycles
theorem Effect.withSp {ws : List (Word × Byte)} {s t : State} (h : Effect ws s t) (v : Word) :
    Effect ws s (withSp t v) := h.cpu { t.cpu with sp := v } t.stepCycles
theorem Effect.withPair {ws : List (Word × Byte)} {s t : State} (h : Effect ws s t) (p : Pair) (v : Word) :
    Effect ws s (withPair t p v) := h.cpu (setPair t.cpu p v) t.stepCycles
theorem Effect.advance (len : Nat) (s : State) : Effect [] s (advance len s) := rfl

theorem storeAll_append (ws ws' : List (Word × Byte)) (s : State) :
    storeAll (ws ++ ws') s = storeAll ws' (storeAll ws s) := by
  induction ws generalizing s with
  | nil => rfl
  | cons w ws ih => exact ih _

theorem memWrite_withStepCycles (s : State) (n : Nat) (a : Word) (v : Byte) :
    memWrite { s with stepCycles := n } a v = { memWrite s a v with stepCycles := n } := by
  have hl : locate { s with stepCycles := n } a = locate s a := rfl
  simp only [memWrite, hl]
  cases locate s a
  case io r =>
    cases r
    case p1 => simp only [writeTarget, ioWrite, writeP1, joypadChange, request]; split <;> rfl
    case div => simp only [writeTarget, ioWrite, resetDiv, timerEdge, timaIncrement, request]; split <;> (try split) <;> rfl
    case tac => simp only [writeTarget, ioWrite, writeTac, timerEdge, timaIncrement, request]; split <;> (try split) <;> rfl
    case lcdc => simp only [writeTarget, ioWrite, writeLcdc]; split <;> rfl
    case dma =>
      have h : ∀ (k i : Nat) (u : State), dmaCopy v k i { u with stepCycles := n } = { dmaCopy v k i u with stepCycles := n } := by
        intro k
        induction k with
        | zero => intro i u; rfl
        | succ k ih =>
          intro i u
          exact ih (i + 1) { u with oam := Store.write u.oam i (memRead u (mk16 v (BitVec.ofNat 8 i))) }
      exact h 160 0 { s with ppu := { s.ppu with dma := v } }
    all_goals rfl
  all_goals rfl

/-- One more store. -/
theorem Effect.memWrite {ws : List (Word × Byte)} {s t : State} (h : Effect ws s t) (a : Word) (v : Byte) :
    Effect (ws ++ [(a, v)]) s (memWrite t a v) := by
  have hc := memWrite_cpu t a v
  have hn := memWrite_stepCycles t a v
  simp only [Effect] at h ⊢
  rw [hc, hn, storeAll_append]
  generalize t.cpu = c' at h
  generalize t.stepCycles = n' at h
  subst h
  rw [memWrite_withStepCycles { storeAll ws s with cpu := c' } n' a v, memWrite_withCpu]
  rfl

/-- The stores of `push16` (R11). -/
def pushStores (v : Word) (s : State) : List (Word × Byte) := [(s.cpu.sp - 1, hiByte v), (s.cpu.sp - 2, loByte v)]

/-- `push16` as two stores and the new SP. -/
theorem push16_eq (v : Word) (s : State) :
    push16 v s = withSp (memWrite (memWrite s (s.cpu.sp - 1) (hiByte v)) (s.cpu.sp - 2) (loByte v)) (s.cpu.sp - 2) := by
  have e : s.cpu.sp - 1 - 1 = s.cpu.sp - 2 := by bv_omega
  simp only [push16, withSp, memWrite_withCpu, memWrite_cpu, e]

theorem Effect.push16 (v : Word) {s t : State} (h : Effect [] s t) (hsp : t.cpu.sp = s.cpu.sp) :
    Effect (pushStores v s) s (push16 v t) := by
  rw [push16_eq, hsp]
  exact ((h.memWrite _ _).memWrite _ _).withSp _

/-- The stores of a write of `r8[n]`. -/
def wr8Stores (s : State) (r : R8) (v : Byte) : List (Word × Byte) := if r = .atHL then [(pair s .hl, v)] else []

theorem Effect.wr8 {s t : State} (h : Effect [] s t) (r : R8) (v : Byte) (hhl : pair t .hl = pair s .hl) :
    Effect (wr8Stores s r v) s (wr8 t r v) := by
  cases r
  case atHL => simp only [wr8Stores, Machine.wr8, if_true, hhl]; exact h.memWrite _ _
  all_goals exact h.cpu _ t.stepCycles

/-- The bytes that a shape stores, in their order. -/
def Shape.stores (i : Shape) (s : State) : List (Word × Byte) :=
  match i with
  | .ldReg dst r => wr8Stores s dst (rd8 s r)
  | .ldImm dst n => wr8Stores s dst n
  | .ldFromHL dst => wr8Stores s dst (rd8 s .atHL)
  | .ldToHL r => [(pair s .hl, rd8 s r)]
  | .stImmAtHL n => [(pair s .hl, n)]
  | .stAAt _ _ addr => [(addr s, s.cpu.a)]
  | .stAAtHLStep _ => [(pair s .hl, s.cpu.a)]
  | .stSp nn => [(nn, loByte s.cpu.sp), (nn + 1, hiByte s.cpu.sp)]
  | .push p => pushStores (pair s p) s
  | .stepReg op r => wr8Stores s r (op s.cpu.f (rd8 s r)).1
  | .cbRot op r => wr8Stores s r (op s.cpu.f (rd8 s r)).1
  | .cbWrite op r => wr8Stores s r (op (rd8 s r))
  | .call cond len _ _ _ => if cond s.cpu.f then pushStores (advance len s).cpu.pc s else []
  | _ => []

/-- STOP or an undefined byte. -/
def Shape.special : Shape → Bool
  | .stop _ => true
  | .undefined _ => true
  | _ => false

theorem rd8_advance (len : Nat) (s : State) (r : R8) : rd8 (advance len s) r = rd8 s r := by
  cases r <;> rfl

theorem pair_advance (len : Nat) (s : State) (p : Pair) : pair (advance len s) p = pair s p := by
  cases p <;> rfl

/-- The control bits that an ordinary instruction may set: none but those of HALT, DI, EI and RETI. -/
structure KeepsControl (s t : State) : Prop where
  stopped : t.cpu.stopped = s.cpu.stopped
  haltBug : t.cpu.haltBug = true → s.cfg.haltBug = true

theorem KeepsControl.of {s t : State} (h1 : t.cpu.stopped = s.cpu.stopped) (h2 : t.cpu.haltBug = false) : KeepsControl s t :=
  ⟨h1, by rw [h2]; exact fun h => Bool.noConfusion (show false = true from h)⟩

theorem wr8_stopped (t : State) (r : R8) (v : Byte) : (wr8 t r v).cpu.stopped = t.cpu.stopped := by
  cases r
  case atHL => simp only [wr8, memWrite_cpu]
  all_goals rfl

theorem wr8_haltBug (t : State) (r : R8) (v : Byte) : (wr8 t r v).cpu.haltBug = t.cpu.haltBug := by
  cases r
  case atHL => simp only [wr8, memWrite_cpu]
  all_goals rfl

theorem push16_cpu (v : Word) (t : State) : (push16 v t).cpu = { t.cpu with sp := t.cpu.sp - 2 } := by
  rw [push16_eq]; simp only [withSp, memWrite_cpu]

theorem haltOp_eq (t : State) : haltOp t = { t with cpu := (haltOp t).cpu } := by
  simp only [haltOp]; split <;> (try split) <;> rfl

/-- Every ordinary instruction completes: it stores its bytes, then writes CPU registers and its cycle count. -/
theorem Shape.run_effect (i : Shape) (s : State) (h : i.special = false) :
    ∃ t, i.run s = .next t ∧ Effect (i.stores s) s t ∧ KeepsControl s t := by
  have adv := fun len => Effect.advance len s
  cases i
  case stop => exact Bool.noConfusion h
  case undefined => exact Bool.noConfusion h
  case ldReg dst r =>
    refine ⟨_, rfl, ?_, .of (wr8_stopped ..) (wr8_haltBug ..)⟩
    simp only [rd8_advance]
    exact ((adv 1).wr8 dst _ (pair_advance ..)).withCycles _
  case ldImm dst n => exact ⟨_, rfl, ((adv 2).wr8 dst n (pair_advance ..)).withCycles _, .of (wr8_stopped ..) (wr8_haltBug ..)⟩
  case ldFromHL dst =>
    refine ⟨_, rfl, ?_, .of (wr8_stopped ..) (wr8_haltBug ..)⟩
    simp only [rd8_advance]
    exact ((adv 1).wr8 dst _ (pair_advance ..)).withCycles _
  case ldToHL r =>
    refine ⟨_, rfl, ?_, .of (wr8_stopped ..) (wr8_haltBug ..)⟩
    simp only [rd8_advance]
    exact ((adv 1).wr8 .atHL _ (pair_advance ..)).withCycles _
  case stImmAtHL n =>
    exact ⟨_, rfl, ((adv 2).wr8 .atHL _ (pair_advance ..)).withCycles _, .of (wr8_stopped ..) (wr8_haltBug ..)⟩
  case ldAFrom len n addr => exact ⟨_, rfl, ((adv len).withA _).withCycles _, .of rfl rfl⟩
  case stAAt len n addr =>
    exact ⟨_, rfl, ((adv len).memWrite _ _).withCycles _, .of (by simp [withCycles, Machine.advance]) (by simp [withCycles, Machine.advance])⟩
  case stAAtHLStep k =>
    exact ⟨_, rfl, (((adv 1).memWrite _ _).withPair _ _).withCycles _,
      .of (by simp [withCycles, withPair, setPair, Machine.advance]) (by simp [withCycles, withPair, setPair, Machine.advance])⟩
  case ldAFromHLStep k => exact ⟨_, rfl, (((adv 1).withA _).withPair _ _).withCycles _, .of rfl rfl⟩
  case ldPairImm p nn => exact ⟨_, rfl, ((adv 3).withPair p nn).withCycles _, .of (by cases p <;> rfl) (by cases p <;> rfl)⟩
  case stSp nn =>
    exact ⟨_, rfl, (((adv 3).memWrite _ _).memWrite _ _).withCycles _,
      .of (by simp [withCycles, Machine.advance]) (by simp [withCycles, Machine.advance])⟩
  case ldSpHl => exact ⟨_, rfl, ((adv 1).withSp _).withCycles _, .of rfl rfl⟩
  case ldHlSp e => exact ⟨_, rfl, (((adv 2).withPair _ _).withFlags _).withCycles _, .of rfl rfl⟩
  case addSp e => exact ⟨_, rfl, (((adv 2).withSp _).withFlags _).withCycles _, .of rfl rfl⟩
  case push p =>
    exact ⟨_, rfl, (Effect.push16 _ (adv 1) rfl).withCycles _,
      .of (by simp [withCycles, push16_cpu, Machine.advance]) (by simp [withCycles, push16_cpu, Machine.advance])⟩
  case pop p =>
    exact ⟨_, rfl, (((adv 1).withSp _).withPair _ _).withCycles _, .of (by cases p <;> rfl) (by cases p <;> rfl)⟩
  case accReg op r => exact ⟨_, rfl, (((adv 1).withA _).withFlags _).withCycles _, .of rfl rfl⟩
  case accImm op n => exact ⟨_, rfl, (((adv 2).withA _).withFlags _).withCycles _, .of rfl rfl⟩
  case stepReg op r =>
    refine ⟨_, rfl, ?_, .of (wr8_stopped ..) (wr8_haltBug ..)⟩
    simp only [rd8_advance]
    exact (((adv 1).wr8 r _ (pair_advance ..)).withFlags _).withCycles _
  case acc f => exact ⟨_, rfl, (((adv 1).withA _).withFlags _).withCycles _, .of rfl rfl⟩
  case addHL p => exact ⟨_, rfl, (((adv 1).withPair _ _).withFlags _).withCycles _, .of rfl rfl⟩
  case stepPair k p => exact ⟨_, rfl, ((adv 1).withPair _ _).withCycles _, .of (by cases p <;> rfl) (by cases p <;> rfl)⟩
  case cbRot op r =>
    refine ⟨_, rfl, ?_, .of (wr8_stopped ..) (wr8_haltBug ..)⟩
    simp only [rd8_advance]
    exact (((adv 2).wr8 r _ (pair_advance ..)).withFlags _).withCycles _
  case cbBit b r => exact ⟨_, rfl, ((adv 2).withFlags _).withCycles _, .of rfl rfl⟩
  case cbWrite op r =>
    refine ⟨_, rfl, ?_, .of (wr8_stopped ..) (wr8_haltBug ..)⟩
    simp only [rd8_advance]
    exact ((adv 2).wr8 r _ (pair_advance ..)).withCycles _
  case jump cond len n m target =>
    simp only [Shape.run, Shape.stores]
    split
    · exact ⟨_, rfl, ((adv len).withPc _).withCycles _, .of rfl rfl⟩
    · exact ⟨_, rfl, (adv len).withCycles _, .of rfl rfl⟩
  case call cond len n m target =>
    simp only [Shape.run, Shape.stores]
    split
    · exact ⟨_, rfl, ((Effect.push16 _ (adv len) rfl).withPc _).withCycles _,
        .of (by simp [withCycles, withPc, push16_cpu, callTo, Machine.advance])
          (by simp [withCycles, withPc, push16_cpu, callTo, Machine.advance])⟩
    · exact ⟨_, rfl, (adv len).withCycles _, .of rfl rfl⟩
  case ret cond n m =>
    simp only [Shape.run, Shape.stores]
    split
    · exact ⟨_, rfl, (((adv 1).withSp _).withPc _).withCycles _, .of rfl rfl⟩
    · exact ⟨_, rfl, (adv 1).withCycles _, .of rfl rfl⟩
  case reti => exact ⟨_, rfl, ((adv 1).cpu _ s.stepCycles).withCycles _, .of rfl rfl⟩
  case nop => exact ⟨_, rfl, (adv 1).withCycles _, .of rfl rfl⟩
  case di => exact ⟨_, rfl, ((adv 1).cpu _ s.stepCycles).withCycles _, .of rfl rfl⟩
  case ei => exact ⟨_, rfl, ((adv 1).cpu _ s.stepCycles).withCycles _, .of rfl rfl⟩
  case halt =>
    refine ⟨_, rfl, ?_, ?_, ?_⟩
    · rw [haltOp_eq]; exact ((adv 1).cpu _ s.stepCycles).withCycles _
    · simp only [withCycles, haltOp]; split <;> (try split) <;> rfl
    · simp only [withCycles, haltOp]
      split
      · split
        · next h => intro _; exact h
        · exact fun h => Bool.noConfusion (show false = true from h)
      · exact fun h => Bool.noConfusion (show false = true from h)

end Sys2Proof.Machine
end

