-- ==== Sys2Proof/Laws/State.lean ====
section
/-! SUPPORT. One lemma per field of the state per update, true by `rfl`: no later proof unfolds a record update. -/
namespace Sys2Proof.Machine

/-! `withPc` -/
@[simp] theorem withPc_cpu (s : State) (v : Word) : (withPc s v).cpu = { s.cpu with pc := v } := rfl
@[simp] theorem withPc_timer (s : State) (v : Word) : (withPc s v).timer = s.timer := rfl
@[simp] theorem withPc_intr (s : State) (v : Word) : (withPc s v).intr = s.intr := rfl
@[simp] theorem withPc_ppu (s : State) (v : Word) : (withPc s v).ppu = s.ppu := rfl
@[simp] theorem withPc_joy (s : State) (v : Word) : (withPc s v).joy = s.joy := rfl
@[simp] theorem withPc_serial (s : State) (v : Word) : (withPc s v).serial = s.serial := rfl
@[simp] theorem withPc_bank (s : State) (v : Word) : (withPc s v).bank = s.bank := rfl
@[simp] theorem withPc_bootRomEnabled (s : State) (v : Word) : (withPc s v).bootRomEnabled = s.bootRomEnabled := rfl
@[simp] theorem withPc_vram (s : State) (v : Word) : (withPc s v).vram = s.vram := rfl
@[simp] theorem withPc_wram (s : State) (v : Word) : (withPc s v).wram = s.wram := rfl
@[simp] theorem withPc_oam (s : State) (v : Word) : (withPc s v).oam = s.oam := rfl
@[simp] theorem withPc_hram (s : State) (v : Word) : (withPc s v).hram = s.hram := rfl
@[simp] theorem withPc_xram (s : State) (v : Word) : (withPc s v).xram = s.xram := rfl
@[simp] theorem withPc_io (s : State) (v : Word) : (withPc s v).io = s.io := rfl
@[simp] theorem withPc_status (s : State) (v : Word) : (withPc s v).status = s.status := rfl
@[simp] theorem withPc_totalCycles (s : State) (v : Word) : (withPc s v).totalCycles = s.totalCycles := rfl
@[simp] theorem withPc_stepCycles (s : State) (v : Word) : (withPc s v).stepCycles = s.stepCycles := rfl
@[simp] theorem withPc_cfg (s : State) (v : Word) : (withPc s v).cfg = s.cfg := rfl

/-! `withSp` -/
@[simp] theorem withSp_cpu (s : State) (v : Word) : (withSp s v).cpu = { s.cpu with sp := v } := rfl
@[simp] theorem withSp_timer (s : State) (v : Word) : (withSp s v).timer = s.timer := rfl
@[simp] theorem withSp_intr (s : State) (v : Word) : (withSp s v).intr = s.intr := rfl
@[simp] theorem withSp_ppu (s : State) (v : Word) : (withSp s v).ppu = s.ppu := rfl
@[simp] theorem withSp_joy (s : State) (v : Word) : (withSp s v).joy = s.joy := rfl
@[simp] theorem withSp_serial (s : State) (v : Word) : (withSp s v).serial = s.serial := rfl
@[simp] theorem withSp_bank (s : State) (v : Word) : (withSp s v).bank = s.bank := rfl
@[simp] theorem withSp_bootRomEnabled (s : State) (v : Word) : (withSp s v).bootRomEnabled = s.bootRomEnabled := rfl
@[simp] theorem withSp_vram (s : State) (v : Word) : (withSp s v).vram = s.vram := rfl
@[simp] theorem withSp_wram (s : State) (v : Word) : (withSp s v).wram = s.wram := rfl
@[simp] theorem withSp_oam (s : State) (v : Word) : (withSp s v).oam = s.oam := rfl
@[simp] theorem withSp_hram (s : State) (v : Word) : (withSp s v).hram = s.hram := rfl
@[simp] theorem withSp_xram (s : State) (v : Word) : (withSp s v).xram = s.xram := rfl
@[simp] theorem withSp_io (s : State) (v : Word) : (withSp s v).io = s.io := rfl
@[simp] theorem withSp_status (s : State) (v : Word) : (withSp s v).status = s.status := rfl
@[simp] theorem withSp_totalCycles (s : State) (v : Word) : (withSp s v).totalCycles = s.totalCycles := rfl
@[simp] theorem withSp_stepCycles (s : State) (v : Word) : (withSp s v).stepCycles = s.stepCycles := rfl
@[simp] theorem withSp_cfg (s : State) (v : Word) : (withSp s v).cfg = s.cfg := rfl

/-! `withA` -/
@[simp] theorem withA_cpu (s : State) (v : Byte) : (withA s v).cpu = { s.cpu with a := v } := rfl
@[simp] theorem withA_timer (s : State) (v : Byte) : (withA s v).timer = s.timer := rfl
@[simp] theorem withA_intr (s : State) (v : Byte) : (withA s v).intr = s.intr := rfl
@[simp] theorem withA_ppu (s : State) (v : Byte) : (withA s v).ppu = s.ppu := rfl
@[simp] theorem withA_joy (s : State) (v : Byte) : (withA s v).joy = s.joy := rfl
@[simp] theorem withA_serial (s : State) (v : Byte) : (withA s v).serial = s.serial := rfl
@[simp] theorem withA_bank (s : State) (v : Byte) : (withA s v).bank = s.bank := rfl
@[simp] theorem withA_bootRomEnabled (s : State) (v : Byte) : (withA s v).bootRomEnabled = s.bootRomEnabled := rfl
@[simp] theorem withA_vram (s : State) (v : Byte) : (withA s v).vram = s.vram := rfl
@[simp] theorem withA_wram (s : State) (v : Byte) : (withA s v).wram = s.wram := rfl
@[simp] theorem withA_oam (s : State) (v : Byte) : (withA s v).oam = s.oam := rfl
@[simp] theorem withA_hram (s : State) (v : Byte) : (withA s v).hram = s.hram := rfl
@[simp] theorem withA_xram (s : State) (v : Byte) : (withA s v).xram = s.xram := rfl
@[simp] theorem withA_io (s : State) (v : Byte) : (withA s v).io = s.io := rfl
@[simp] theorem withA_status (s : State) (v : Byte) : (withA s v).status = s.status := rfl
@[simp] theorem withA_totalCycles (s : State) (v : Byte) : (withA s v).totalCycles = s.totalCycles := rfl
@[simp] theorem withA_stepCycles (s : State) (v : Byte) : (withA s v).stepCycles = s.stepCycles := rfl
@[simp] theorem withA_cfg (s : State) (v : Byte) : (withA s v).cfg = s.cfg := rfl

/-! `withFlags` -/
@[simp] theorem withFlags_cpu (s : State) (f : Flags) : (withFlags s f).cpu = { s.cpu with f := f } := rfl
@[simp] theorem withFlags_timer (s : State) (f : Flags) : (withFlags s f).timer = s.timer := rfl
@[simp] theorem withFlags_intr (s : State) (f : Flags) : (withFlags s f).intr = s.intr := rfl
@[simp] theorem withFlags_ppu (s : State) (f : Flags) : (withFlags s f).ppu = s.ppu := rfl
@[simp] theorem withFlags_joy (s : State) (f : Flags) : (withFlags s f).joy = s.joy := rfl
@[simp] theorem withFlags_serial (s : State) (f : Flags) : (withFlags s f).serial = s.serial := rfl
@[simp] theorem withFlags_bank (s : State) (f : Flags) : (withFlags s f).bank = s.bank := rfl
@[simp] theorem withFlags_bootRomEnabled (s : State) (f : Flags) :
    (withFlags s f).bootRomEnabled = s.bootRomEnabled := rfl
@[simp] theorem withFlags_vram (s : State) (f : Flags) : (withFlags s f).vram = s.vram := rfl
@[simp] theorem withFlags_wram (s : State) (f : Flags) : (withFlags s f).wram = s.wram := rfl
@[simp] theorem withFlags_oam (s : State) (f : Flags) : (withFlags s f).oam = s.oam := rfl
@[simp] theorem withFlags_hram (s : State) (f : Flags) : (withFlags s f).hram = s.hram := rfl
@[simp] theorem withFlags_xram (s : State) (f : Flags) : (withFlags s f).xram = s.xram := rfl
@[simp] theorem withFlags_io (s : State) (f : Flags) : (withFlags s f).io = s.io := rfl
@[simp] theorem withFlags_status (s : State) (f : Flags) : (withFlags s f).status = s.status := rfl
@[simp] theorem withFlags_totalCycles (s : State) (f : Flags) : (withFlags s f).totalCycles = s.totalCycles := rfl
@[simp] theorem withFlags_stepCycles (s : State) (f : Flags) : (withFlags s f).stepCycles = s.stepCycles := rfl
@[simp] theorem withFlags_cfg (s : State) (f : Flags) : (withFlags s f).cfg = s.cfg := rfl

/-! `withPair` -/
@[simp] theorem withPair_cpu (s : State) (p : Pair) (v : Word) : (withPair s p v).cpu = setPair s.cpu p v := rfl
@[simp] theorem withPair_timer (s : State) (p : Pair) (v : Word) : (withPair s p v).timer = s.timer := rfl
@[simp] theorem withPair_intr (s : State) (p : Pair) (v : Word) : (withPair s p v).intr = s.intr := rfl
@[simp] theorem withPair_ppu (s : State) (p : Pair) (v : Word) : (withPair s p v).ppu = s.ppu := rfl
@[simp] theorem withPair_joy (s : State) (p : Pair) (v : Word) : (withPair s p v).joy = s.joy := rfl
@[simp] theorem withPair_serial (s : State) (p : Pair) (v : Word) : (withPair s p v).serial = s.serial := rfl
@[simp] theorem withPair_bank (s : State) (p : Pair) (v : Word) : (withPair s p v).bank = s.bank := rfl
@[simp] theorem withPair_bootRomEnabled (s : State) (p : Pair) (v : Word) :
    (withPair s p v).bootRomEnabled = s.bootRomEnabled := rfl
@[simp] theorem withPair_vram (s : State) (p : Pair) (v : Word) : (withPair s p v).vram = s.vram := rfl
@[simp] theorem withPair_wram (s : State) (p : Pair) (v : Word) : (withPair s p v).wram = s.wram := rfl
@[simp] theorem withPair_oam (s : State) (p : Pair) (v : Word) : (withPair s p v).oam = s.oam := rfl
@[simp] theorem withPair_hram (s : State) (p : Pair) (v : Word) : (withPair s p v).hram = s.hram := rfl
@[simp] theorem withPair_xram (s : State) (p : Pair) (v : Word) : (withPair s p v).xram = s.xram := rfl
@[simp] theorem withPair_io (s : State) (p : Pair) (v : Word) : (withPair s p v).io = s.io := rfl
@[simp] theorem withPair_status (s : State) (p : Pair) (v : Word) : (withPair s p v).status = s.status := rfl
@[simp] theorem withPair_totalCycles (s : State) (p : Pair) (v : Word) :
    (withPair s p v).totalCycles = s.totalCycles := rfl
@[simp] theorem withPair_stepCycles (s : State) (p : Pair) (v : Word) :
    (withPair s p v).stepCycles = s.stepCycles := rfl
@[simp] theorem withPair_cfg (s : State) (p : Pair) (v : Word) : (withPair s p v).cfg = s.cfg := rfl

/-! `withCycles` -/
@[simp] theorem withCycles_cpu (n : Nat) (s : State) : (withCycles n s).cpu = s.cpu := rfl
@[simp] theorem withCycles_timer (n : Nat) (s : State) : (withCycles n s).timer = s.timer := rfl
@[simp] theorem withCycles_intr (n : Nat) (s : State) : (withCycles n s).intr = s.intr := rfl
@[simp] theorem withCycles_ppu (n : Nat) (s : State) : (withCycles n s).ppu = s.ppu := rfl
@[simp] theorem withCycles_joy (n : Nat) (s : State) : (withCycles n s).joy = s.joy := rfl
@[simp] theorem withCycles_serial (n : Nat) (s : State) : (withCycles n s).serial = s.serial := rfl
@[simp] theorem withCycles_bank (n : Nat) (s : State) : (withCycles n s).bank = s.bank := rfl
@[simp] theorem withCycles_bootRomEnabled (n : Nat) (s : State) :
    (withCycles n s).bootRomEnabled = s.bootRomEnabled := rfl
@[simp] theorem withCycles_vram (n : Nat) (s : State) : (withCycles n s).vram = s.vram := rfl
@[simp] theorem withCycles_wram (n : Nat) (s : State) : (withCycles n s).wram = s.wram := rfl
@[simp] theorem withCycles_oam (n : Nat) (s : State) : (withCycles n s).oam = s.oam := rfl
@[simp] theorem withCycles_hram (n : Nat) (s : State) : (withCycles n s).hram = s.hram := rfl
@[simp] theorem withCycles_xram (n : Nat) (s : State) : (withCycles n s).xram = s.xram := rfl
@[simp] theorem withCycles_io (n : Nat) (s : State) : (withCycles n s).io = s.io := rfl
@[simp] theorem withCycles_status (n : Nat) (s : State) : (withCycles n s).status = s.status := rfl
@[simp] theorem withCycles_totalCycles (n : Nat) (s : State) : (withCycles n s).totalCycles = s.totalCycles := rfl
@[simp] theorem withCycles_stepCycles (n : Nat) (s : State) : (withCycles n s).stepCycles = n := rfl
@[simp] theorem withCycles_cfg (n : Nat) (s : State) : (withCycles n s).cfg = s.cfg := rfl

/-! `advance` -/
@[simp] theorem advance_cpu (len : Nat) (s : State) :
    (advance len s).cpu = { s.cpu with pc := s.cpu.pc + BitVec.ofNat 16 (if s.cpu.haltBug then len - 1 else len), haltBug := false } := rfl
@[simp] theorem advance_timer (len : Nat) (s : State) : (advance len s).timer = s.timer := rfl
@[simp] theorem advance_intr (len : Nat) (s : State) : (advance len s).intr = s.intr := rfl
@[simp] theorem advance_ppu (len : Nat) (s : State) : (advance len s).ppu = s.ppu := rfl
@[simp] theorem advance_joy (len : Nat) (s : State) : (advance len s).joy = s.joy := rfl
@[simp] theorem advance_serial (len : Nat) (s : State) : (advance len s).serial = s.serial := rfl
@[simp] theorem advance_bank (len : Nat) (s : State) : (advance len s).bank = s.bank := rfl
@[simp] theorem advance_bootRomEnabled (len : Nat) (s : State) :
    (advance len s).bootRomEnabled = s.bootRomEnabled := rfl
@[simp] theorem advance_vram (len : Nat) (s : State) : (advance len s).vram = s.vram := rfl
@[simp] theorem advance_wram (len : Nat) (s : State) : (advance len s).wram = s.wram := rfl
@[simp] theorem advance_oam (len : Nat) (s : State) : (advance len s).oam = s.oam := rfl
@[simp] theorem advance_hram (len : Nat) (s : State) : (advance len s).hram = s.hram := rfl
@[simp] theorem advance_xram (len : Nat) (s : State) : (advance len s).xram = s.xram := rfl
@[simp] theorem advance_io (len : Nat) (s : State) : (advance len s).io = s.io := rfl
@[simp] theorem advance_status (len : Nat) (s : State) : (advance len s).status = s.status := rfl
@[simp] theorem advance_totalCycles (len : Nat) (s : State) : (advance len s).totalCycles = s.totalCycles := rfl
@[simp] theorem advance_stepCycles (len : Nat) (s : State) : (advance len s).stepCycles = s.stepCycles := rfl
@[simp] theorem advance_cfg (len : Nat) (s : State) : (advance len s).cfg = s.cfg := rfl

/-! `popped` -/
@[simp] theorem popped_cpu (s : State) : (popped s).cpu = { s.cpu with sp := s.cpu.sp + 2 } := rfl
@[simp] theorem popped_timer (s : State) : (popped s).timer = s.timer := rfl
@[simp] theorem popped_intr (s : State) : (popped s).intr = s.intr := rfl
@[simp] theorem popped_ppu (s : State) : (popped s).ppu = s.ppu := rfl
@[simp] theorem popped_joy (s : State) : (popped s).joy = s.joy := rfl
@[simp] theorem popped_serial (s : State) : (popped s).serial = s.serial := rfl
@[simp] theorem popped_bank (s : State) : (popped s).bank = s.bank := rfl
@[simp] theorem popped_bootRomEnabled (s : State) : (popped s).bootRomEnabled = s.bootRomEnabled := rfl
@[simp] theorem popped_vram (s : State) : (popped s).vram = s.vram := rfl
@[simp] theorem popped_wram (s : State) : (popped s).wram = s.wram := rfl
@[simp] theorem popped_oam (s : State) : (popped s).oam = s.oam := rfl
@[simp] theorem popped_hram (s : State) : (popped s).hram = s.hram := rfl
@[simp] theorem popped_xram (s : State) : (popped s).xram = s.xram := rfl
@[simp] theorem popped_io (s : State) : (popped s).io = s.io := rfl
@[simp] theorem popped_status (s : State) : (popped s).status = s.status := rfl
@[simp] theorem popped_totalCycles (s : State) : (popped s).totalCycles = s.totalCycles := rfl
@[simp] theorem popped_stepCycles (s : State) : (popped s).stepCycles = s.stepCycles := rfl
@[simp] theorem popped_cfg (s : State) : (popped s).cfg = s.cfg := rfl

/-! `clearRequest` -/
@[simp] theorem clearRequest_cpu (k : Nat) (s : State) : (clearRequest k s).cpu = s.cpu := rfl
@[simp] theorem clearRequest_timer (k : Nat) (s : State) : (clearRequest k s).timer = s.timer := rfl
@[simp] theorem clearRequest_intr (k : Nat) (s : State) :
    (clearRequest k s).intr = { s.intr with req := s.intr.req &&& ~~~(1#5 <<< k) } := rfl
@[simp] theorem clearRequest_ppu (k : Nat) (s : State) : (clearRequest k s).ppu = s.ppu := rfl
@[simp] theorem clearRequest_joy (k : Nat) (s : State) : (clearRequest k s).joy = s.joy := rfl
@[simp] theorem clearRequest_serial (k : Nat) (s : State) : (clearRequest k s).serial = s.serial := rfl
@[simp] theorem clearRequest_bank (k : Nat) (s : State) : (clearRequest k s).bank = s.bank := rfl
@[simp] theorem clearRequest_bootRomEnabled (k : Nat) (s : State) :
    (clearRequest k s).bootRomEnabled = s.bootRomEnabled := rfl
@[simp] theorem clearRequest_vram (k : Nat) (s : State) : (clearRequest k s).vram = s.vram := rfl
@[simp] theorem clearRequest_wram (k : Nat) (s : State) : (clearRequest k s).wram = s.wram := rfl
@[simp] theorem clearRequest_oam (k : Nat) (s : State) : (clearRequest k s).oam = s.oam := rfl
@[simp] theorem clearRequest_hram (k : Nat) (s : State) : (clearRequest k s).hram = s.hram := rfl
@[simp] theorem clearRequest_xram (k : Nat) (s : State) : (clearRequest k s).xram = s.xram := rfl
@[simp] theorem clearRequest_io (k : Nat) (s : State) : (clearRequest k s).io = s.io := rfl
@[simp] theorem clearRequest_status (k : Nat) (s : State) : (clearRequest k s).status = s.status := rfl
@[simp] theorem clearRequest_totalCycles (k : Nat) (s : State) : (clearRequest k s).totalCycles = s.totalCycles := rfl
@[simp] theorem clearRequest_stepCycles (k : Nat) (s : State) : (clearRequest k s).stepCycles = s.stepCycles := rfl
@[simp] theorem clearRequest_cfg (k : Nat) (s : State) : (clearRequest k s).cfg = s.cfg := rfl

/-! `request` -/
@[simp] theorem request_cpu (k : Nat) (s : State) : (request k s).cpu = s.cpu := rfl
@[simp] theorem request_timer (k : Nat) (s : State) : (request k s).timer = s.timer := rfl
@[simp] theorem request_intr (k : Nat) (s : State) :
    (request k s).intr = { s.intr with req := s.intr.req ||| (1#5 <<< k) } := rfl
@[simp] theorem request_ppu (k : Nat) (s : State) : (request k s).ppu = s.ppu := rfl
@[simp] theorem request_joy (k : Nat) (s : State) : (request k s).joy = s.joy := rfl
@[simp] theorem request_serial (k : Nat) (s : State) : (request k s).serial = s.serial := rfl
@[simp] theorem request_bank (k : Nat) (s : State) : (request k s).bank = s.bank := rfl
@[simp] theorem request_bootRomEnabled (k : Nat) (s : State) : (request k s).bootRomEnabled = s.bootRomEnabled := rfl
@[simp] theorem request_vram (k : Nat) (s : State) : (request k s).vram = s.vram := rfl
@[simp] theorem request_wram (k : Nat) (s : State) : (request k s).wram = s.wram := rfl
@[simp] theorem request_oam (k : Nat) (s : State) : (request k s).oam = s.oam := rfl
@[simp] theorem request_hram (k : Nat) (s : State) : (request k s).hram = s.hram := rfl
@[simp] theorem request_xram (k : Nat) (s : State) : (request k s).xram = s.xram := rfl
@[simp] theorem request_io (k : Nat) (s : State) : (request k s).io = s.io := rfl
@[simp] theorem request_status (k : Nat) (s : State) : (request k s).status = s.status := rfl
@[simp] theorem request_totalCycles (k : Nat) (s : State) : (request k s).totalCycles = s.totalCycles := rfl
@[simp] theorem request_stepCycles (k : Nat) (s : State) : (request k s).stepCycles = s.stepCycles := rfl
@[simp] theorem request_cfg (k : Nat) (s : State) : (request k s).cfg = s.cfg := rfl

/-! `unhalt` -/
@[simp] theorem unhalt_cpu (s : State) : (unhalt s).cpu = { s.cpu with halted := false } := rfl
@[simp] theorem unhalt_timer (s : State) : (unhalt s).timer = s.timer := rfl
@[simp] theorem unhalt_intr (s : State) : (unhalt s).intr = s.intr := rfl
@[simp] theorem unhalt_ppu (s : State) : (unhalt s).ppu = s.ppu := rfl
@[simp] theorem unhalt_joy (s : State) : (unhalt s).joy = s.joy := rfl
@[simp] theorem unhalt_serial (s : State) : (unhalt s).serial = s.serial := rfl
@[simp] theorem unhalt_bank (s : State) : (unhalt s).bank = s.bank := rfl
@[simp] theorem unhalt_bootRomEnabled (s : State) : (unhalt s).bootRomEnabled = s.bootRomEnabled := rfl
@[simp] theorem unhalt_vram (s : State) : (unhalt s).vram = s.vram := rfl
@[simp] theorem unhalt_wram (s : State) : (unhalt s).wram = s.wram := rfl
@[simp] theorem unhalt_oam (s : State) : (unhalt s).oam = s.oam := rfl
@[simp] theorem unhalt_hram (s : State) : (unhalt s).hram = s.hram := rfl
@[simp] theorem unhalt_xram (s : State) : (unhalt s).xram = s.xram := rfl
@[simp] theorem unhalt_io (s : State) : (unhalt s).io = s.io := rfl
@[simp] theorem unhalt_status (s : State) : (unhalt s).status = s.status := rfl
@[simp] theorem unhalt_totalCycles (s : State) : (unhalt s).totalCycles = s.totalCycles := rfl
@[simp] theorem unhalt_stepCycles (s : State) : (unhalt s).stepCycles = s.stepCycles := rfl
@[simp] theorem unhalt_cfg (s : State) : (unhalt s).cfg = s.cfg := rfl

/-! `unstop` -/
@[simp] theorem unstop_cpu (s : State) : (unstop s).cpu = { s.cpu with stopped := false } := rfl
@[simp] theorem unstop_timer (s : State) : (unstop s).timer = s.timer := rfl
@[simp] theorem unstop_intr (s : State) : (unstop s).intr = s.intr := rfl
@[simp] theorem unstop_ppu (s : State) : (unstop s).ppu = s.ppu := rfl
@[simp] theorem unstop_joy (s : State) : (unstop s).joy = s.joy := rfl
@[simp] theorem unstop_serial (s : State) : (unstop s).serial = s.serial := rfl
@[simp] theorem unstop_bank (s : State) : (unstop s).bank = s.bank := rfl
@[simp] theorem unstop_bootRomEnabled (s : State) : (unstop s).bootRomEnabled = s.bootRomEnabled := rfl
@[simp] theorem unstop_vram (s : State) : (unstop s).vram = s.vram := rfl
@[simp] theorem unstop_wram (s : State) : (unstop s).wram = s.wram := rfl
@[simp] theorem unstop_oam (s : State) : (unstop s).oam = s.oam := rfl
@[simp] theorem unstop_hram (s : State) : (unstop s).hram = s.hram := rfl
@[simp] theorem unstop_xram (s : State) : (unstop s).xram = s.xram := rfl
@[simp] theorem unstop_io (s : State) : (unstop s).io = s.io := rfl
@[simp] theorem unstop_status (s : State) : (unstop s).status = s.status := rfl
@[simp] theorem unstop_totalCycles (s : State) : (unstop s).totalCycles = s.totalCycles := rfl
@[simp] theorem unstop_stepCycles (s : State) : (unstop s).stepCycles = s.stepCycles := rfl
@[simp] theorem unstop_cfg (s : State) : (unstop s).cfg = s.cfg := rfl

/-! The bytes of a pair after a write of the pair. -/

@[simp] theorem setPair_pc (c : Cpu) (p : Pair) (v : Word) : (setPair c p v).pc = c.pc := by cases p <;> rfl
@[simp] theorem setPair_ime (c : Cpu) (p : Pair) (v : Word) : (setPair c p v).ime = c.ime := by cases p <;> rfl
@[simp] theorem setPair_imeDelay (c : Cpu) (p : Pair) (v : Word) : (setPair c p v).imeDelay = c.imeDelay := by
  cases p <;> rfl
@[simp] theorem setPair_halted (c : Cpu) (p : Pair) (v : Word) : (setPair c p v).halted = c.halted := by cases p <;> rfl
@[simp] theorem setPair_haltBug (c : Cpu) (p : Pair) (v : Word) : (setPair c p v).haltBug = c.haltBug := by
  cases p <;> rfl
@[simp] theorem setPair_stopped (c : Cpu) (p : Pair) (v : Word) : (setPair c p v).stopped = c.stopped := by
  cases p <;> rfl

end Sys2Proof.Machine
end

