-- ==== Sys2Proof/Laws/Step.lean ====
section
/-! SUPPORT. The step taken apart: the four ways a step answers a next state (60_exceptions.md R400 to R406), and what STOP,
an undefined byte and a dispatch do. -/
namespace Sys2Proof.Machine

/-- The shape is special exactly for STOP and the undefined bytes. -/
theorem special_cases (i : Instr) (h : (shapeOf i).special = true) : (∃ x, i = .stop x) ∨ ∃ op, i = .undefined op := by
  cases i
  case stop x => exact .inl ⟨x, rfl⟩
  case undefined op => exact .inr ⟨op, rfl⟩
  all_goals exact Bool.noConfusion (show false = true from h)

/-- Every instruction but STOP and the undefined bytes completes with its stores and a change of the CPU. -/
theorem exec_effect (i : Instr) (s : State) (h : (shapeOf i).special = false) :
    ∃ t, exec i s = .next t ∧ Effect ((shapeOf i).stores s) s t ∧ KeepsControl s t := by
  rw [exec_eq_run]; exact Shape.run_effect _ s h

/-- STOP under LOW_POWER changes the CPU, the timer, the request bits and the cycle count (R353). -/
theorem stopOp_eq (t : State) : stopOp t =
    { t with cpu := { t.cpu with stopped := true }, timer := (resetDiv t).timer, intr := (resetDiv t).intr } := by
  simp only [stopOp, resetDiv]; rw [timerEdge_eq]

/-- The next state of a dispatch, apart from the bus: the two stores, the CPU, the request bit, the cycles. -/
theorem dispatch_eq (k : Nat) (vec : Word) (s : State) :
    dispatch k vec s = withCycles 20 (clearRequest k { storeAll (pushStores (dispatchReturn s) s) s with
      cpu := { s.cpu with sp := s.cpu.sp - 2, pc := vec, ime := false, imeDelay := false, haltBug := false } }) := by
  simp only [dispatch, push16_eq, withSp, storeAll, pushStores, memWrite_cpu]

/-- A CPU that is not stopped stays as it is. -/
theorem unstop_of {s : State} (h : s.cpu.stopped = false) : unstop s = s := by
  have e : s.cpu = { s.cpu with stopped := false } := by rw [← h]
  simp only [unstop]; rw [← e]

/-- A CPU that is not halted stays as it is. -/
theorem unhalt_of {s : State} (h : s.cpu.halted = false) : unhalt s = s := by
  have e : s.cpu = { s.cpu with halted := false } := by rw [← h]
  simp only [unhalt]; rw [← e]

/-- The ways a step answers a next state. -/
inductive StepCase (s t : State) : Prop where
  /-- stopped: 0 cycles -/
  | stopped (h : staysStopped s = true) (e : t = advanceDevices (withCycles 0 s))
  /-- halted: 4 cycles -/
  | halted (h : staysStopped s = false) (h' : staysHalted (unstop s) = true) (e : t = advanceDevices (withCycles 4 (unstop s)))
  /-- a dispatch instead of a fetch -/
  | dispatched (k : Nat) (vec : Word) (h : interruptTaken s = some (k, vec))
      (e : t = advanceDevices (dispatch k vec (unhalt (unstop s))))
  /-- an instruction, after which the run goes on -/
  | ran (u : State) (h : exec (fetchInstr s) (unhalt (unstop s)) = .next u) (hu : u.status = .running)
      (e : t = advanceDevices (settleIme s.cpu.imeDelay u))
  /-- an instruction that ended the run -/
  | ended (u : State) (h : exec (fetchInstr s) (unhalt (unstop s)) = .next u) (hu : u.status ≠ .running) (e : t = u)

/-- A step that answers a next state starts in a running state and is one of the five. -/
theorem step_cases {s t : State} (h : step s = .next t) : s.status = .running ∧ StepCase s t := by
  cases hs : s.status with
  | faulted op addr => simp [step, hs] at h
  | refused addr x => simp [step, hs] at h
  | running =>
    refine ⟨rfl, ?_⟩
    simp only [step, hs] at h
    split at h
    · next hst => exact .stopped hst (by injection h with h; exact h.symm)
    · next hst =>
      simp only [Bool.not_eq_true] at hst
      simp only [runAwake] at h
      split at h
      · next hh => exact .halted hst hh (by injection h with h; exact h.symm)
      · simp only [runCpu] at h
        have hi : interruptTaken (unhalt (unstop s)) = interruptTaken s := rfl
        rw [hi] at h
        split at h
        · next k vec hk => exact .dispatched k vec hk (by injection h with h; exact h.symm)
        · have hf : fetchInstr (unhalt (unstop s)) = fetchInstr s := rfl
          rw [hf] at h
          cases hx : exec (fetchInstr s) (unhalt (unstop s)) with
          | fault r => simp [hx, finishStep] at h
          | refused r => simp [hx, finishStep] at h
          | next u =>
            simp only [hx, finishStep] at h
            split at h
            · next hu => exact .ran u hx hu (by injection h with h; exact h.symm)
            · next hu => exact .ended u hx hu (by injection h with h; exact h.symm)

end Sys2Proof.Machine
end

