-- ==== Sys2Proof/Tests/Slice0.lean ====
section
/-! SUPPORT. Tests: the well-formedness smoke, the decoding of every constructor by a word written out from the spec, one-step
vectors of spec/95_test_vectors.md, and for every statement with hypotheses a witness that meets them. -/
namespace Sys2Proof.Tests
open Sys2Proof.Machine Sys2Proof.Certificates
set_option Elab.async false

/-! ### Well-formedness: a byte outside the eleven of R183 is refused -/

theorem test_wf_refuses_a_defined_byte : (Instr.undefined 0x00).wf = false := by decide
theorem test_wf_refuses_the_prefix_byte : (Instr.undefined 0xCB).wf = false := by decide
theorem test_wf_admits_an_undefined_byte : (Instr.undefined 0xDB).wf = true := by decide

/-! ### Decoding: the opcode map R181 and the CB map R182, row by row (the words of spec/opcode_table.json) -/

/-- The instruction of an instruction stream, with the bytes 0x34 and 0x12 as operands. -/
def decoded (op : Byte) : Option Instr := (decode [op, 0x34, 0x12]).toOption.map Prod.fst

/-- The instruction of a CB word. -/
def decodedCb (op : Byte) : Option Instr := (decode [0xCB, op]).toOption.map Prod.fst

theorem test_decode_row_0x : [0x00#8, 0x01, 0x02, 0x03, 0x04, 0x05, 0x06, 0x07, 0x08, 0x09, 0x0A, 0x0B, 0x0C, 0x0D, 0x0E, 0x0F].map decoded = ([
    .nop, .ld_BC_d16 0x1234, .ld_atBC_A, .inc_BC, .inc_B, .dec_B, .ld_B_d8 0x34, .rlca, .ld_at_a16_SP 0x1234,
    .add_HL_BC, .ld_A_atBC, .dec_BC, .inc_C, .dec_C, .ld_C_d8 0x34, .rrca] : List Instr).map some := by
  decide +kernel
theorem test_decode_row_1x : [0x10#8, 0x11, 0x12, 0x13, 0x14, 0x15, 0x16, 0x17, 0x18, 0x19, 0x1A, 0x1B, 0x1C, 0x1D, 0x1E, 0x1F].map decoded = ([
    .stop 0x34, .ld_DE_d16 0x1234, .ld_atDE_A, .inc_DE, .inc_D, .dec_D, .ld_D_d8 0x34, .rla, .jr_e8 0x34, .add_HL_DE,
    .ld_A_atDE, .dec_DE, .inc_E, .dec_E, .ld_E_d8 0x34, .rra] : List Instr).map some := by
  decide +kernel
theorem test_decode_row_2x : [0x20#8, 0x21, 0x22, 0x23, 0x24, 0x25, 0x26, 0x27, 0x28, 0x29, 0x2A, 0x2B, 0x2C, 0x2D, 0x2E, 0x2F].map decoded = ([
    .jr_NZ_e8 0x34, .ld_HL_d16 0x1234, .ld_atHLinc_A, .inc_HL, .inc_H, .dec_H, .ld_H_d8 0x34, .daa, .jr_Z_e8 0x34,
    .add_HL_HL, .ld_A_atHLinc, .dec_HL, .inc_L, .dec_L, .ld_L_d8 0x34, .cpl] : List Instr).map some := by
  decide +kernel
theorem test_decode_row_3x : [0x30#8, 0x31, 0x32, 0x33, 0x34, 0x35, 0x36, 0x37, 0x38, 0x39, 0x3A, 0x3B, 0x3C, 0x3D, 0x3E, 0x3F].map decoded = ([
    .jr_NC_e8 0x34, .ld_SP_d16 0x1234, .ld_atHLdec_A, .inc_SP, .inc_atHL, .dec_atHL, .ld_atHL_d8 0x34, .scf,
    .jr_C_e8 0x34, .add_HL_SP, .ld_A_atHLdec, .dec_SP, .inc_A, .dec_A, .ld_A_d8 0x34, .ccf] : List Instr).map some := by
  decide +kernel
theorem test_decode_row_4x : [0x40#8, 0x41, 0x42, 0x43, 0x44, 0x45, 0x46, 0x47, 0x48, 0x49, 0x4A, 0x4B, 0x4C, 0x4D, 0x4E, 0x4F].map decoded = ([
    .ld_B_B, .ld_B_C, .ld_B_D, .ld_B_E, .ld_B_H, .ld_B_L, .ld_B_atHL, .ld_B_A, .ld_C_B, .ld_C_C, .ld_C_D, .ld_C_E,
    .ld_C_H, .ld_C_L, .ld_C_atHL, .ld_C_A] : List Instr).map some := by
  decide +kernel
theorem test_decode_row_5x : [0x50#8, 0x51, 0x52, 0x53, 0x54, 0x55, 0x56, 0x57, 0x58, 0x59, 0x5A, 0x5B, 0x5C, 0x5D, 0x5E, 0x5F].map decoded = ([
    .ld_D_B, .ld_D_C, .ld_D_D, .ld_D_E, .ld_D_H, .ld_D_L, .ld_D_atHL, .ld_D_A, .ld_E_B, .ld_E_C, .ld_E_D, .ld_E_E,
    .ld_E_H, .ld_E_L, .ld_E_atHL, .ld_E_A] : List Instr).map some := by
  decide +kernel
theorem test_decode_row_6x : [0x60#8, 0x61, 0x62, 0x63, 0x64, 0x65, 0x66, 0x67, 0x68, 0x69, 0x6A, 0x6B, 0x6C, 0x6D, 0x6E, 0x6F].map decoded = ([
    .ld_H_B, .ld_H_C, .ld_H_D, .ld_H_E, .ld_H_H, .ld_H_L, .ld_H_atHL, .ld_H_A, .ld_L_B, .ld_L_C, .ld_L_D, .ld_L_E,
    .ld_L_H, .ld_L_L, .ld_L_atHL, .ld_L_A] : List Instr).map some := by
  decide +kernel
theorem test_decode_row_7x : [0x70#8, 0x71, 0x72, 0x73, 0x74, 0x75, 0x76, 0x77, 0x78, 0x79, 0x7A, 0x7B, 0x7C, 0x7D, 0x7E, 0x7F].map decoded = ([
    .ld_atHL_B, .ld_atHL_C, .ld_atHL_D, .ld_atHL_E, .ld_atHL_H, .ld_atHL_L, .halt, .ld_atHL_A, .ld_A_B, .ld_A_C,
    .ld_A_D, .ld_A_E, .ld_A_H, .ld_A_L, .ld_A_atHL, .ld_A_A] : List Instr).map some := by
  decide +kernel
theorem test_decode_row_8x : [0x80#8, 0x81, 0x82, 0x83, 0x84, 0x85, 0x86, 0x87, 0x88, 0x89, 0x8A, 0x8B, 0x8C, 0x8D, 0x8E, 0x8F].map decoded = ([
    .add_A_B, .add_A_C, .add_A_D, .add_A_E, .add_A_H, .add_A_L, .add_A_atHL, .add_A_A, .adc_A_B, .adc_A_C, .adc_A_D,
    .adc_A_E, .adc_A_H, .adc_A_L, .adc_A_atHL, .adc_A_A] : List Instr).map some := by
  decide +kernel
theorem test_decode_row_9x : [0x90#8, 0x91, 0x92, 0x93, 0x94, 0x95, 0x96, 0x97, 0x98, 0x99, 0x9A, 0x9B, 0x9C, 0x9D, 0x9E, 0x9F].map decoded = ([
    .sub_B, .sub_C, .sub_D, .sub_E, .sub_H, .sub_L, .sub_atHL, .sub_A, .sbc_A_B, .sbc_A_C, .sbc_A_D, .sbc_A_E,
    .sbc_A_H, .sbc_A_L, .sbc_A_atHL, .sbc_A_A] : List Instr).map some := by
  decide +kernel
theorem test_decode_row_Ax : [0xA0#8, 0xA1, 0xA2, 0xA3, 0xA4, 0xA5, 0xA6, 0xA7, 0xA8, 0xA9, 0xAA, 0xAB, 0xAC, 0xAD, 0xAE, 0xAF].map decoded = ([
    .and_B, .and_C, .and_D, .and_E, .and_H, .and_L, .and_atHL, .and_A, .xor_B, .xor_C, .xor_D, .xor_E, .xor_H,
    .xor_L, .xor_atHL, .xor_A] : List Instr).map some := by
  decide +kernel
theorem test_decode_row_Bx : [0xB0#8, 0xB1, 0xB2, 0xB3, 0xB4, 0xB5, 0xB6, 0xB7, 0xB8, 0xB9, 0xBA, 0xBB, 0xBC, 0xBD, 0xBE, 0xBF].map decoded = ([
    .or_B, .or_C, .or_D, .or_E, .or_H, .or_L, .or_atHL, .or_A, .cp_B, .cp_C, .cp_D, .cp_E, .cp_H, .cp_L, .cp_atHL,
    .cp_A] : List Instr).map some := by
  decide +kernel
theorem test_decode_row_Cx : [0xC0#8, 0xC1, 0xC2, 0xC3, 0xC4, 0xC5, 0xC6, 0xC7, 0xC8, 0xC9, 0xCA, 0xCC, 0xCD, 0xCE, 0xCF].map decoded = ([
    .ret_NZ, .pop_BC, .jp_NZ_a16 0x1234, .jp_a16 0x1234, .call_NZ_a16 0x1234, .push_BC, .add_A_d8 0x34, .rst_00,
    .ret_Z, .ret, .jp_Z_a16 0x1234, .call_Z_a16 0x1234, .call_a16 0x1234, .adc_A_d8 0x34, .rst_08] : List Instr).map some := by
  decide +kernel
theorem test_decode_row_Dx : [0xD0#8, 0xD1, 0xD2, 0xD3, 0xD4, 0xD5, 0xD6, 0xD7, 0xD8, 0xD9, 0xDA, 0xDB, 0xDC, 0xDD, 0xDE, 0xDF].map decoded = ([
    .ret_NC, .pop_DE, .jp_NC_a16 0x1234, .undefined 0xD3, .call_NC_a16 0x1234, .push_DE, .sub_d8 0x34, .rst_10,
    .ret_C, .reti, .jp_C_a16 0x1234, .undefined 0xDB, .call_C_a16 0x1234, .undefined 0xDD, .sbc_A_d8 0x34, .rst_18] : List Instr).map some := by
  decide +kernel
theorem test_decode_row_Ex : [0xE0#8, 0xE1, 0xE2, 0xE3, 0xE4, 0xE5, 0xE6, 0xE7, 0xE8, 0xE9, 0xEA, 0xEB, 0xEC, 0xED, 0xEE, 0xEF].map decoded = ([
    .ldh_at_a8_A 0x34, .pop_HL, .ld_atC_A, .undefined 0xE3, .undefined 0xE4, .push_HL, .and_d8 0x34, .rst_20,
    .add_SP_e8 0x34, .jp_atHL, .ld_at_a16_A 0x1234, .undefined 0xEB, .undefined 0xEC, .undefined 0xED, .xor_d8 0x34,
    .rst_28] : List Instr).map some := by
  decide +kernel
theorem test_decode_row_Fx : [0xF0#8, 0xF1, 0xF2, 0xF3, 0xF4, 0xF5, 0xF6, 0xF7, 0xF8, 0xF9, 0xFA, 0xFB, 0xFC, 0xFD, 0xFE, 0xFF].map decoded = ([
    .ldh_A_at_a8 0x34, .pop_AF, .ld_A_atC, .di, .undefined 0xF4, .push_AF, .or_d8 0x34, .rst_30, .ld_HL_SP_e8 0x34,
    .ld_SP_HL, .ld_A_at_a16 0x1234, .ei, .undefined 0xFC, .undefined 0xFD, .cp_d8 0x34, .rst_38] : List Instr).map some := by
  decide +kernel
theorem test_decode_cb_row_0x : [0x00#8, 0x01, 0x02, 0x03, 0x04, 0x05, 0x06, 0x07, 0x08, 0x09, 0x0A, 0x0B, 0x0C, 0x0D, 0x0E, 0x0F].map decodedCb = ([
    .rlc_B, .rlc_C, .rlc_D, .rlc_E, .rlc_H, .rlc_L, .rlc_atHL, .rlc_A, .rrc_B, .rrc_C, .rrc_D, .rrc_E, .rrc_H,
    .rrc_L, .rrc_atHL, .rrc_A] : List Instr).map some := by
  decide +kernel
theorem test_decode_cb_row_1x : [0x10#8, 0x11, 0x12, 0x13, 0x14, 0x15, 0x16, 0x17, 0x18, 0x19, 0x1A, 0x1B, 0x1C, 0x1D, 0x1E, 0x1F].map decodedCb = ([
    .rl_B, .rl_C, .rl_D, .rl_E, .rl_H, .rl_L, .rl_atHL, .rl_A, .rr_B, .rr_C, .rr_D, .rr_E, .rr_H, .rr_L, .rr_atHL,
    .rr_A] : List Instr).map some := by
  decide +kernel
theorem test_decode_cb_row_2x : [0x20#8, 0x21, 0x22, 0x23, 0x24, 0x25, 0x26, 0x27, 0x28, 0x29, 0x2A, 0x2B, 0x2C, 0x2D, 0x2E, 0x2F].map decodedCb = ([
    .sla_B, .sla_C, .sla_D, .sla_E, .sla_H, .sla_L, .sla_atHL, .sla_A, .sra_B, .sra_C, .sra_D, .sra_E, .sra_H,
    .sra_L, .sra_atHL, .sra_A] : List Instr).map some := by
  decide +kernel
theorem test_decode_cb_row_3x : [0x30#8, 0x31, 0x32, 0x33, 0x34, 0x35, 0x36, 0x37, 0x38, 0x39, 0x3A, 0x3B, 0x3C, 0x3D, 0x3E, 0x3F].map decodedCb = ([
    .swap_B, .swap_C, .swap_D, .swap_E, .swap_H, .swap_L, .swap_atHL, .swap_A, .srl_B, .srl_C, .srl_D, .srl_E,
    .srl_H, .srl_L, .srl_atHL, .srl_A] : List Instr).map some := by
  decide +kernel
theorem test_decode_cb_row_4x : [0x40#8, 0x41, 0x42, 0x43, 0x44, 0x45, 0x46, 0x47, 0x48, 0x49, 0x4A, 0x4B, 0x4C, 0x4D, 0x4E, 0x4F].map decodedCb = ([
    .bit_0_B, .bit_0_C, .bit_0_D, .bit_0_E, .bit_0_H, .bit_0_L, .bit_0_atHL, .bit_0_A, .bit_1_B, .bit_1_C, .bit_1_D,
    .bit_1_E, .bit_1_H, .bit_1_L, .bit_1_atHL, .bit_1_A] : List Instr).map some := by
  decide +kernel
theorem test_decode_cb_row_5x : [0x50#8, 0x51, 0x52, 0x53, 0x54, 0x55, 0x56, 0x57, 0x58, 0x59, 0x5A, 0x5B, 0x5C, 0x5D, 0x5E, 0x5F].map decodedCb = ([
    .bit_2_B, .bit_2_C, .bit_2_D, .bit_2_E, .bit_2_H, .bit_2_L, .bit_2_atHL, .bit_2_A, .bit_3_B, .bit_3_C, .bit_3_D,
    .bit_3_E, .bit_3_H, .bit_3_L, .bit_3_atHL, .bit_3_A] : List Instr).map some := by
  decide +kernel
theorem test_decode_cb_row_6x : [0x60#8, 0x61, 0x62, 0x63, 0x64, 0x65, 0x66, 0x67, 0x68, 0x69, 0x6A, 0x6B, 0x6C, 0x6D, 0x6E, 0x6F].map decodedCb = ([
    .bit_4_B, .bit_4_C, .bit_4_D, .bit_4_E, .bit_4_H, .bit_4_L, .bit_4_atHL, .bit_4_A, .bit_5_B, .bit_5_C, .bit_5_D,
    .bit_5_E, .bit_5_H, .bit_5_L, .bit_5_atHL, .bit_5_A] : List Instr).map some := by
  decide +kernel
theorem test_decode_cb_row_7x : [0x70#8, 0x71, 0x72, 0x73, 0x74, 0x75, 0x76, 0x77, 0x78, 0x79, 0x7A, 0x7B, 0x7C, 0x7D, 0x7E, 0x7F].map decodedCb = ([
    .bit_6_B, .bit_6_C, .bit_6_D, .bit_6_E, .bit_6_H, .bit_6_L, .bit_6_atHL, .bit_6_A, .bit_7_B, .bit_7_C, .bit_7_D,
    .bit_7_E, .bit_7_H, .bit_7_L, .bit_7_atHL, .bit_7_A] : List Instr).map some := by
  decide +kernel
theorem test_decode_cb_row_8x : [0x80#8, 0x81, 0x82, 0x83, 0x84, 0x85, 0x86, 0x87, 0x88, 0x89, 0x8A, 0x8B, 0x8C, 0x8D, 0x8E, 0x8F].map decodedCb = ([
    .res_0_B, .res_0_C, .res_0_D, .res_0_E, .res_0_H, .res_0_L, .res_0_atHL, .res_0_A, .res_1_B, .res_1_C, .res_1_D,
    .res_1_E, .res_1_H, .res_1_L, .res_1_atHL, .res_1_A] : List Instr).map some := by
  decide +kernel
theorem test_decode_cb_row_9x : [0x90#8, 0x91, 0x92, 0x93, 0x94, 0x95, 0x96, 0x97, 0x98, 0x99, 0x9A, 0x9B, 0x9C, 0x9D, 0x9E, 0x9F].map decodedCb = ([
    .res_2_B, .res_2_C, .res_2_D, .res_2_E, .res_2_H, .res_2_L, .res_2_atHL, .res_2_A, .res_3_B, .res_3_C, .res_3_D,
    .res_3_E, .res_3_H, .res_3_L, .res_3_atHL, .res_3_A] : List Instr).map some := by
  decide +kernel
theorem test_decode_cb_row_Ax : [0xA0#8, 0xA1, 0xA2, 0xA3, 0xA4, 0xA5, 0xA6, 0xA7, 0xA8, 0xA9, 0xAA, 0xAB, 0xAC, 0xAD, 0xAE, 0xAF].map decodedCb = ([
    .res_4_B, .res_4_C, .res_4_D, .res_4_E, .res_4_H, .res_4_L, .res_4_atHL, .res_4_A, .res_5_B, .res_5_C, .res_5_D,
    .res_5_E, .res_5_H, .res_5_L, .res_5_atHL, .res_5_A] : List Instr).map some := by
  decide +kernel
theorem test_decode_cb_row_Bx : [0xB0#8, 0xB1, 0xB2, 0xB3, 0xB4, 0xB5, 0xB6, 0xB7, 0xB8, 0xB9, 0xBA, 0xBB, 0xBC, 0xBD, 0xBE, 0xBF].map decodedCb = ([
    .res_6_B, .res_6_C, .res_6_D, .res_6_E, .res_6_H, .res_6_L, .res_6_atHL, .res_6_A, .res_7_B, .res_7_C, .res_7_D,
    .res_7_E, .res_7_H, .res_7_L, .res_7_atHL, .res_7_A] : List Instr).map some := by
  decide +kernel
theorem test_decode_cb_row_Cx : [0xC0#8, 0xC1, 0xC2, 0xC3, 0xC4, 0xC5, 0xC6, 0xC7, 0xC8, 0xC9, 0xCA, 0xCB, 0xCC, 0xCD, 0xCE, 0xCF].map decodedCb = ([
    .set_0_B, .set_0_C, .set_0_D, .set_0_E, .set_0_H, .set_0_L, .set_0_atHL, .set_0_A, .set_1_B, .set_1_C, .set_1_D,
    .set_1_E, .set_1_H, .set_1_L, .set_1_atHL, .set_1_A] : List Instr).map some := by
  decide +kernel
theorem test_decode_cb_row_Dx : [0xD0#8, 0xD1, 0xD2, 0xD3, 0xD4, 0xD5, 0xD6, 0xD7, 0xD8, 0xD9, 0xDA, 0xDB, 0xDC, 0xDD, 0xDE, 0xDF].map decodedCb = ([
    .set_2_B, .set_2_C, .set_2_D, .set_2_E, .set_2_H, .set_2_L, .set_2_atHL, .set_2_A, .set_3_B, .set_3_C, .set_3_D,
    .set_3_E, .set_3_H, .set_3_L, .set_3_atHL, .set_3_A] : List Instr).map some := by
  decide +kernel
theorem test_decode_cb_row_Ex : [0xE0#8, 0xE1, 0xE2, 0xE3, 0xE4, 0xE5, 0xE6, 0xE7, 0xE8, 0xE9, 0xEA, 0xEB, 0xEC, 0xED, 0xEE, 0xEF].map decodedCb = ([
    .set_4_B, .set_4_C, .set_4_D, .set_4_E, .set_4_H, .set_4_L, .set_4_atHL, .set_4_A, .set_5_B, .set_5_C, .set_5_D,
    .set_5_E, .set_5_H, .set_5_L, .set_5_atHL, .set_5_A] : List Instr).map some := by
  decide +kernel
theorem test_decode_cb_row_Fx : [0xF0#8, 0xF1, 0xF2, 0xF3, 0xF4, 0xF5, 0xF6, 0xF7, 0xF8, 0xF9, 0xFA, 0xFB, 0xFC, 0xFD, 0xFE, 0xFF].map decodedCb = ([
    .set_6_B, .set_6_C, .set_6_D, .set_6_E, .set_6_H, .set_6_L, .set_6_atHL, .set_6_A, .set_7_B, .set_7_C, .set_7_D,
    .set_7_E, .set_7_H, .set_7_L, .set_7_atHL, .set_7_A] : List Instr).map some := by
  decide +kernel

/-! Words written out bit by bit from the encodings, one or more for each family. -/

/-- R200: `01 yyy zzz`, y = 0 (B), z = 1 (C). -/
theorem test_word_ld_B_C : decode [0b01_000_001] = .ok (.ld_B_C, []) := by decide
/-- R201: `00 yyy 110 nnnnnnnn`, y = 7 (A). -/
theorem test_word_ld_A_d8 : decode [0b00_111_110, 0b01011010] = .ok (.ld_A_d8 0x5A, []) := by decide
/-- R230: `00 pp 0001 llllllll hhhhhhhh`, p = 3 (SP). -/
theorem test_word_ld_SP_d16 : decode [0b00_11_0001, 0b11111110, 0b11111111] = .ok (.ld_SP_d16 0xFFFE, []) := by decide
/-- R234: `11 pp 0101`, p = 3 (AF). -/
theorem test_word_push_AF : decode [0b11_11_0101] = .ok (.push_AF, []) := by decide
/-- R251: `10 000 zzz`, z = 6, (HL). -/
theorem test_word_add_A_atHL : decode [0b10_000_110] = .ok (.add_A_atHL, []) := by decide
/-- R280: `00 pp 1001`, p = 1 (DE). -/
theorem test_word_add_HL_DE : decode [0b00_01_1001] = .ok (.add_HL_DE, []) := by decide
/-- R294: CB `00 ooo zzz`, o = 2 (RL), z = 5 (L). -/
theorem test_word_rl_L : decode [0b11001011, 0b00_010_101] = .ok (.rl_L, []) := by decide
/-- R303: CB `01 bbb zzz`, b = 7, z = 4 (H). -/
theorem test_word_bit_7_H : decode [0b11001011, 0b01_111_100] = .ok (.bit_7_H, []) := by decide
/-- R325: `001 kk 000 eeeeeeee`, k = 1 (Z). -/
theorem test_word_jr_Z_e8 : decode [0b001_01_000, 0b11111011] = .ok (.jr_Z_e8 0xFB, []) := by decide
/-- R331: `11 ttt 111`, t = 7. -/
theorem test_word_rst_38 : decode [0b11_111_111] = .ok (.rst_38, []) := by decide
/-- R351: `01 110 110` is HALT, not a load. -/
theorem test_word_halt : decode [0b01_110_110] = .ok (.halt, []) := by decide
/-- R185: STOP takes the byte after 0x10. -/
theorem test_word_stop : decode [0b00010000, 0b10101010] = .ok (.stop 0xAA, []) := by decide
/-- A word that ends inside its operands is refused by name. -/
theorem test_truncated : decode [0xCD, 0x00] = .error (.truncated 0xCD) := by decide

/-- The table numbers a CB row with CB in bits 15 to 8, and gives operand bytes no bits. -/
theorem test_table_words : decodeTableWord 16 0xCB37 = some .swap_A ∧ decodeTableWord 8 0x3E = some (.ld_A_d8 0)
    ∧ decodeTableWord 8 0xCD = some (.call_a16 0) := by decide

/-! ### One step: the vectors of spec/95_test_vectors.md section 2 -/

/-- The initial state of the vectors: SP = 0xDFF0, PC = 0xC000 in work RAM, the boot ROM off, everything else 0. -/
def board (code : List Byte) : State :=
  placeBytes 0xC000 code { cpu := { sp := 0xDFF0, pc := 0xC000 }, bootRomEnabled := false }

/-- What `f` reads in the state after one step. -/
def after {α : Type} (s : State) (f : State → α) : Option α :=
  match step s with
  | .next t => some (f t)
  | _ => none

theorem test_LD_B_C :
    after ({ board [0x41] with cpu.c := 0x5A })
      (fun t => (t.cpu.b, t.cpu.pc, t.totalCycles)) = some (0x5A, 0xC001, 4) := by decide +kernel
theorem test_LD_A_A_no_flag_change :
    after ({ board [0x7F] with cpu.a := 0x80, cpu.f := Flags.ofByte 0xF0 })
      (fun t => (t.cpu.pc, t.totalCycles)) = some (0xC001, 4) := by decide +kernel
theorem test_LD_HL_A :
    after ({ board [0x77] with cpu.h := 0xC1, cpu.l := 0x23, cpu.a := 0x9F })
      (fun t => (t.cpu.pc, memRead t 0xC123, t.totalCycles)) = some (0xC001, 0x9F, 8) := by decide +kernel
theorem test_LD_H_HL_destination_is_part_of_the_address :
    after (placeByte 0xC310 0xAB ({ board [0x66] with cpu.h := 0xC3, cpu.l := 0x10 }))
      (fun t => (t.cpu.h, t.cpu.pc, t.totalCycles)) = some (0xAB, 0xC001, 8) := by decide +kernel
theorem test_LD_A_HL_across_a_page :
    after (placeByte 0xC0FF 0x42 ({ board [0x2A] with cpu.h := 0xC0, cpu.l := 0xFF }))
      (fun t => (t.cpu.a, t.cpu.h, t.cpu.l, t.totalCycles)) = some (0x42, 0xC1, 0x00, 8) := by decide +kernel
theorem test_LD_HL_A_at_A000_no_external_RAM_write_dropped :
    after ({ board [0x32] with cpu.h := 0xA0, cpu.l := 0x00, cpu.a := 0x11 })
      (fun t => (t.cpu.h, t.cpu.l, memRead t 0xA000, t.totalCycles)) = some (0x9F, 0xFF, 0xFF, 8) := by decide +kernel
theorem test_LD_HL_A_at_FFFF_writes_IE_HL_wraps :
    after ({ board [0x22] with cpu.h := 0xFF, cpu.l := 0xFF, cpu.a := 0xE5 })
      (fun t => (t.cpu.h, t.cpu.l, t.intr.ie, t.totalCycles)) = some (0x00, 0x00, 0xE5, 8) := by decide +kernel
theorem test_LD_A_BC :
    after (placeByte 0xC200 0x77 ({ board [0x0A] with cpu.b := 0xC2, cpu.c := 0x00 }))
      (fun t => (t.cpu.a, t.cpu.pc, t.totalCycles)) = some (0x77, 0xC001, 8) := by decide +kernel
theorem test_LD_DE_A_into_echo_RAM :
    after ({ board [0x12] with cpu.d := 0xE1, cpu.e := 0x00, cpu.a := 0x3C })
      (fun t => (t.cpu.pc, memRead t 0xC100, t.totalCycles)) = some (0xC001, 0x3C, 8) := by decide +kernel
theorem test_LD_HL_d8 :
    after ({ board [0x36, 0x99] with cpu.h := 0xC3, cpu.l := 0x00 })
      (fun t => (t.cpu.pc, memRead t 0xC300, t.totalCycles)) = some (0xC002, 0x99, 12) := by decide +kernel
theorem test_LDH_a8_A :
    after ({ board [0xE0, 0x80] with cpu.a := 0x5D })
      (fun t => (t.cpu.pc, memRead t 0xFF80, t.totalCycles)) = some (0xC002, 0x5D, 12) := by decide +kernel
theorem test_LDH_A_a8_reads_IF_upper_bits_1 :
    after ({ board [0xF0, 0x0F] with intr.req := 0x05 })
      (fun t => (t.cpu.a, t.cpu.pc, t.totalCycles)) = some (0xE5, 0xC002, 12) := by decide +kernel
theorem test_LD_C_A :
    after ({ board [0xE2] with cpu.c := 0x81, cpu.a := 0x12 })
      (fun t => (t.cpu.pc, memRead t 0xFF81, t.totalCycles)) = some (0xC001, 0x12, 8) := by decide +kernel
theorem test_LD_A_C_reads_TAC_upper_bits_1 :
    after ({ board [0xF2] with cpu.c := 0x07, timer.tac := 0x05 })
      (fun t => (t.cpu.a, t.cpu.pc, t.totalCycles)) = some (0xFD, 0xC001, 8) := by decide +kernel
theorem test_LD_a16_A :
    after ({ board [0xEA, 0x34, 0xD2] with cpu.a := 0x66 })
      (fun t => (t.cpu.pc, memRead t 0xD234, t.totalCycles)) = some (0xC003, 0x66, 16) := by decide +kernel
theorem test_LD_A_a16_from_the_unusable_region :
    after (board [0xFA, 0xA0, 0xFE])
      (fun t => (t.cpu.a, t.cpu.pc, t.totalCycles)) = some (0xFF, 0xC003, 16) := by decide +kernel
theorem test_LD_BC_d16_low_byte_first :
    after (board [0x01, 0x34, 0x12])
      (fun t => (t.cpu.b, t.cpu.c, t.cpu.pc, t.totalCycles)) = some (0x12, 0x34, 0xC003, 12) := by decide +kernel
theorem test_LD_SP_d16 :
    after (board [0x31, 0xFE, 0xFF])
      (fun t => (t.cpu.sp, t.cpu.pc, t.totalCycles)) = some (0xFFFE, 0xC003, 12) := by decide +kernel
theorem test_LD_a16_SP :
    after ({ board [0x08, 0x00, 0xC4] with cpu.sp := 0xBEEF })
      (fun t => (t.cpu.pc, memRead t 0xC400, memRead t 0xC401, t.totalCycles)) = some (0xC003, 0xEF, 0xBE, 20) := by decide +kernel
theorem test_LD_SP_HL :
    after ({ board [0xF9] with cpu.h := 0x12, cpu.l := 0x34 })
      (fun t => (t.cpu.sp, t.cpu.pc, t.totalCycles)) = some (0x1234, 0xC001, 8) := by decide +kernel
theorem test_PUSH_BC :
    after ({ board [0xC5] with cpu.b := 0x12, cpu.c := 0x34, cpu.sp := 0xD000 })
      (fun t => (t.cpu.sp, memRead t 0xCFFF, memRead t 0xCFFE, t.totalCycles)) = some (0xCFFE, 0x12, 0x34, 16) := by decide +kernel
theorem test_PUSH_AF :
    after ({ board [0xF5] with cpu.a := 0xAB, cpu.f := Flags.ofByte 0x50, cpu.sp := 0xD000 })
      (fun t => (t.cpu.sp, memRead t 0xCFFF, memRead t 0xCFFE, t.totalCycles)) = some (0xCFFE, 0xAB, 0x50, 16) := by decide +kernel
theorem test_POP_AF_masks_F_3_0 :
    after (placeByte 0xD001 0x12 (placeByte 0xD000 0xFF ({ board [0xF1] with cpu.sp := 0xD000 })))
      (fun t => (t.cpu.a, t.cpu.f.toByte, t.cpu.sp, t.totalCycles)) = some (0x12, 0xF0, 0xD002, 12) := by decide +kernel
theorem test_POP_HL_at_SP_0xFFFE_SP_wraps :
    after (placeByte 0xFFFF 0x11 (placeByte 0xFFFE 0x22 ({ board [0xE1] with cpu.sp := 0xFFFE })))
      (fun t => (t.cpu.h, t.cpu.l, t.cpu.sp, t.totalCycles)) = some (0x11, 0x22, 0x0000, 12) := by decide +kernel
theorem test_LD_HL_SP_1_SP_0x00FF_H_and_C_from_the_low_byte :
    after ({ board [0xF8, 0x01] with cpu.sp := 0x00FF })
      (fun t => (t.cpu.h, t.cpu.l, t.cpu.f.toByte, t.totalCycles)) = some (0x01, 0x00, 0x30, 12) := by decide +kernel
theorem test_LD_HL_SP_128_SP_0xD000_Z_cleared :
    after ({ board [0xF8, 0x80] with cpu.sp := 0xD000, cpu.f := Flags.ofByte 0xF0 })
      (fun t => (t.cpu.h, t.cpu.l, t.cpu.f.toByte, t.totalCycles)) = some (0xCF, 0x80, 0x00, 12) := by decide +kernel
theorem test_ADD_A_B_to_zero :
    after ({ board [0x80] with cpu.a := 0x3A, cpu.b := 0xC6 })
      (fun t => (t.cpu.a, t.cpu.f.toByte, t.cpu.pc, t.totalCycles)) = some (0x00, 0xB0, 0xC001, 4) := by decide +kernel
theorem test_ADD_A_d8_half_carry_only :
    after ({ board [0xC6, 0x01] with cpu.a := 0x0F })
      (fun t => (t.cpu.a, t.cpu.f.toByte, t.cpu.pc, t.totalCycles)) = some (0x10, 0x20, 0xC002, 8) := by decide +kernel
theorem test_ADC_A_C_with_carry_in :
    after ({ board [0x89] with cpu.a := 0xE1, cpu.c := 0x0F, cpu.f := Flags.ofByte 0x10 })
      (fun t => (t.cpu.a, t.cpu.f.toByte, t.cpu.pc, t.totalCycles)) = some (0xF1, 0x20, 0xC001, 4) := by decide +kernel
theorem test_ADC_A_d8_0xFF_0x00_1 :
    after ({ board [0xCE, 0x00] with cpu.a := 0xFF, cpu.f := Flags.ofByte 0x10 })
      (fun t => (t.cpu.a, t.cpu.f.toByte, t.cpu.pc, t.totalCycles)) = some (0x00, 0xB0, 0xC002, 8) := by decide +kernel
theorem test_SUB_A_E_equal :
    after ({ board [0x93] with cpu.a := 0x3E, cpu.e := 0x3E })
      (fun t => (t.cpu.a, t.cpu.f.toByte, t.cpu.pc, t.totalCycles)) = some (0x00, 0xC0, 0xC001, 4) := by decide +kernel
theorem test_SUB_A_d8_with_borrow :
    after ({ board [0xD6, 0x40] with cpu.a := 0x3E })
      (fun t => (t.cpu.a, t.cpu.f.toByte, t.cpu.pc, t.totalCycles)) = some (0xFE, 0x50, 0xC002, 8) := by decide +kernel
theorem test_SBC_A_H_with_carry_in :
    after ({ board [0x9C] with cpu.a := 0x3B, cpu.h := 0x2A, cpu.f := Flags.ofByte 0x10 })
      (fun t => (t.cpu.a, t.cpu.f.toByte, t.cpu.pc, t.totalCycles)) = some (0x10, 0x40, 0xC001, 4) := by decide +kernel
theorem test_SBC_A_d8_0x00_0xFF_1 :
    after ({ board [0xDE, 0xFF] with cpu.a := 0x00, cpu.f := Flags.ofByte 0x10 })
      (fun t => (t.cpu.a, t.cpu.f.toByte, t.cpu.pc, t.totalCycles)) = some (0x00, 0xF0, 0xC002, 8) := by decide +kernel
theorem test_AND_A_HL :
    after (placeByte 0xC010 0x3F ({ board [0xA6] with cpu.a := 0x5A, cpu.h := 0xC0, cpu.l := 0x10 }))
      (fun t => (t.cpu.a, t.cpu.f.toByte, t.cpu.pc, t.totalCycles)) = some (0x1A, 0x20, 0xC001, 8) := by decide +kernel
theorem test_AND_A_d8_to_zero_C_cleared :
    after ({ board [0xE6, 0x00] with cpu.a := 0xFF, cpu.f := Flags.ofByte 0x10 })
      (fun t => (t.cpu.a, t.cpu.f.toByte, t.cpu.pc, t.totalCycles)) = some (0x00, 0xA0, 0xC002, 8) := by decide +kernel
theorem test_XOR_A_A :
    after ({ board [0xAF] with cpu.a := 0x77, cpu.f := Flags.ofByte 0x70 })
      (fun t => (t.cpu.a, t.cpu.f.toByte, t.cpu.pc, t.totalCycles)) = some (0x00, 0x80, 0xC001, 4) := by decide +kernel
theorem test_OR_A_d8 :
    after ({ board [0xF6, 0x03] with cpu.a := 0x5A, cpu.f := Flags.ofByte 0xF0 })
      (fun t => (t.cpu.a, t.cpu.f.toByte, t.cpu.pc, t.totalCycles)) = some (0x5B, 0x00, 0xC002, 8) := by decide +kernel
theorem test_CP_A_d8_equal_A_unchanged :
    after ({ board [0xFE, 0x3C] with cpu.a := 0x3C })
      (fun t => (t.cpu.f.toByte, t.cpu.pc, t.totalCycles)) = some (0xC0, 0xC002, 8) := by decide +kernel
theorem test_CP_A_B_less :
    after ({ board [0xB8] with cpu.a := 0x3C, cpu.b := 0x40 })
      (fun t => (t.cpu.f.toByte, t.cpu.pc, t.totalCycles)) = some (0x50, 0xC001, 4) := by decide +kernel
theorem test_INC_A_from_0xFF_E2 :
    after ({ board [0x3C] with cpu.a := 0xFF, cpu.f := Flags.ofByte 0x10 })
      (fun t => (t.cpu.a, t.cpu.f.toByte, t.cpu.pc, t.totalCycles)) = some (0x00, 0xB0, 0xC001, 4) := by decide +kernel
theorem test_INC_HL_from_0x0F :
    after (placeByte 0xC020 0x0F ({ board [0x34] with cpu.h := 0xC0, cpu.l := 0x20 }))
      (fun t => (t.cpu.f.toByte, t.cpu.pc, memRead t 0xC020, t.totalCycles)) = some (0x20, 0xC001, 0x10, 12) := by decide +kernel
theorem test_DEC_B_from_0x01 :
    after ({ board [0x05] with cpu.b := 0x01 })
      (fun t => (t.cpu.b, t.cpu.f.toByte, t.cpu.pc, t.totalCycles)) = some (0x00, 0xC0, 0xC001, 4) := by decide +kernel
theorem test_DEC_B_from_0x00_C_kept :
    after ({ board [0x05] with cpu.b := 0x00, cpu.f := Flags.ofByte 0x10 })
      (fun t => (t.cpu.b, t.cpu.f.toByte, t.cpu.pc, t.totalCycles)) = some (0xFF, 0x70, 0xC001, 4) := by decide +kernel
theorem test_DEC_HL_from_0x10 :
    after (placeByte 0xC020 0x10 ({ board [0x35] with cpu.h := 0xC0, cpu.l := 0x20 }))
      (fun t => (t.cpu.f.toByte, t.cpu.pc, memRead t 0xC020, t.totalCycles)) = some (0x60, 0xC001, 0x0F, 12) := by decide +kernel
theorem test_DAA_A_0x00_C_1_N_0 :
    after ({ board [0x27] with cpu.a := 0x00, cpu.f := Flags.ofByte 0x10 })
      (fun t => (t.cpu.a, t.cpu.f.toByte, t.cpu.pc, t.totalCycles)) = some (0x60, 0x10, 0xC001, 4) := by decide +kernel
theorem test_DAA_A_0x9A_not_BCD_flags_0 :
    after ({ board [0x27] with cpu.a := 0x9A })
      (fun t => (t.cpu.a, t.cpu.f.toByte, t.cpu.pc, t.totalCycles)) = some (0x00, 0x90, 0xC001, 4) := by decide +kernel
theorem test_CPL :
    after ({ board [0x2F] with cpu.a := 0x35, cpu.f := Flags.ofByte 0x90 })
      (fun t => (t.cpu.a, t.cpu.f.toByte, t.cpu.pc, t.totalCycles)) = some (0xCA, 0xF0, 0xC001, 4) := by decide +kernel
theorem test_SCF :
    after ({ board [0x37] with cpu.f := Flags.ofByte 0xE0 })
      (fun t => (t.cpu.f.toByte, t.cpu.pc, t.totalCycles)) = some (0x90, 0xC001, 4) := by decide +kernel
theorem test_CCF_with_C_1 :
    after ({ board [0x3F] with cpu.f := Flags.ofByte 0xF0 })
      (fun t => (t.cpu.f.toByte, t.cpu.pc, t.totalCycles)) = some (0x80, 0xC001, 4) := by decide +kernel
theorem test_CCF_with_C_0 :
    after ({ board [0x3F] with cpu.f := Flags.ofByte 0x80 })
      (fun t => (t.cpu.f.toByte, t.cpu.pc, t.totalCycles)) = some (0x90, 0xC001, 4) := by decide +kernel
theorem test_ADD_HL_BC_carry_out_of_bit_11_Z_kept :
    after ({ board [0x09] with cpu.h := 0x0F, cpu.l := 0xFF, cpu.c := 0x01, cpu.f := Flags.ofByte 0x80 })
      (fun t => (t.cpu.h, t.cpu.l, t.cpu.f.toByte, t.totalCycles)) = some (0x10, 0x00, 0xA0, 8) := by decide +kernel
theorem test_ADD_HL_HL_carry_out_of_bit_15 :
    after ({ board [0x29] with cpu.h := 0x80, cpu.l := 0x00 })
      (fun t => (t.cpu.h, t.cpu.f.toByte, t.cpu.pc, t.totalCycles)) = some (0x00, 0x10, 0xC001, 8) := by decide +kernel
theorem test_ADD_HL_SP_both_carries :
    after ({ board [0x39] with cpu.h := 0x12, cpu.l := 0x34, cpu.sp := 0xEDCC, cpu.f := Flags.ofByte 0x40 })
      (fun t => (t.cpu.h, t.cpu.l, t.cpu.f.toByte, t.totalCycles)) = some (0x00, 0x00, 0x30, 8) := by decide +kernel
theorem test_INC_BC_from_0xFFFF_no_flags :
    after ({ board [0x03] with cpu.b := 0xFF, cpu.c := 0xFF })
      (fun t => (t.cpu.b, t.cpu.c, t.cpu.pc, t.totalCycles)) = some (0x00, 0x00, 0xC001, 8) := by decide +kernel
theorem test_DEC_DE_from_0x0000_no_flags :
    after ({ board [0x1B] with cpu.f := Flags.ofByte 0xF0 })
      (fun t => (t.cpu.d, t.cpu.e, t.cpu.pc, t.totalCycles)) = some (0xFF, 0xFF, 0xC001, 8) := by decide +kernel
theorem test_INC_SP_from_0xFFFF :
    after ({ board [0x33] with cpu.sp := 0xFFFF })
      (fun t => (t.cpu.sp, t.cpu.pc, t.totalCycles)) = some (0x0000, 0xC001, 8) := by decide +kernel
theorem test_DEC_HL_across_a_page :
    after ({ board [0x2B] with cpu.h := 0x01, cpu.l := 0x00 })
      (fun t => (t.cpu.h, t.cpu.l, t.cpu.pc, t.totalCycles)) = some (0x00, 0xFF, 0xC001, 8) := by decide +kernel
theorem test_ADD_SP_1_from_0x00FF :
    after ({ board [0xE8, 0x01] with cpu.sp := 0x00FF, cpu.f := Flags.ofByte 0xC0 })
      (fun t => (t.cpu.sp, t.cpu.f.toByte, t.cpu.pc, t.totalCycles)) = some (0x0100, 0x30, 0xC002, 16) := by decide +kernel
theorem test_ADD_SP_1_from_0x0001 :
    after ({ board [0xE8, 0xFF] with cpu.sp := 0x0001 })
      (fun t => (t.cpu.sp, t.cpu.f.toByte, t.cpu.pc, t.totalCycles)) = some (0x0000, 0x30, 0xC002, 16) := by decide +kernel
theorem test_RLCA :
    after ({ board [0x07] with cpu.a := 0x85, cpu.f := Flags.ofByte 0x80 })
      (fun t => (t.cpu.a, t.cpu.f.toByte, t.cpu.pc, t.totalCycles)) = some (0x0B, 0x10, 0xC001, 4) := by decide +kernel
theorem test_RLCA_of_0_Z_is_0_not_set :
    after ({ board [0x07] with cpu.a := 0x00, cpu.f := Flags.ofByte 0x80 })
      (fun t => (t.cpu.f.toByte, t.cpu.pc, t.totalCycles)) = some (0x00, 0xC001, 4) := by decide +kernel
theorem test_RLA_with_carry_in :
    after ({ board [0x17] with cpu.a := 0x95, cpu.f := Flags.ofByte 0x10 })
      (fun t => (t.cpu.a, t.cpu.f.toByte, t.cpu.pc, t.totalCycles)) = some (0x2B, 0x10, 0xC001, 4) := by decide +kernel
theorem test_RRCA :
    after ({ board [0x0F] with cpu.a := 0x3B })
      (fun t => (t.cpu.a, t.cpu.f.toByte, t.cpu.pc, t.totalCycles)) = some (0x9D, 0x10, 0xC001, 4) := by decide +kernel
theorem test_RRA_with_carry_in :
    after ({ board [0x1F] with cpu.a := 0x81, cpu.f := Flags.ofByte 0x10 })
      (fun t => (t.cpu.a, t.cpu.f.toByte, t.cpu.pc, t.totalCycles)) = some (0xC0, 0x10, 0xC001, 4) := by decide +kernel
theorem test_RLC_B :
    after ({ board [0xCB, 0x00] with cpu.b := 0x85 })
      (fun t => (t.cpu.b, t.cpu.f.toByte, t.cpu.pc, t.totalCycles)) = some (0x0B, 0x10, 0xC002, 8) := by decide +kernel
theorem test_RRC_C :
    after ({ board [0xCB, 0x09] with cpu.c := 0x01 })
      (fun t => (t.cpu.c, t.cpu.f.toByte, t.cpu.pc, t.totalCycles)) = some (0x80, 0x10, 0xC002, 8) := by decide +kernel
theorem test_RL_HL_to_zero :
    after (placeByte 0xC030 0x80 ({ board [0xCB, 0x16] with cpu.h := 0xC0, cpu.l := 0x30 }))
      (fun t => (t.cpu.f.toByte, t.cpu.pc, memRead t 0xC030, t.totalCycles)) = some (0x90, 0xC002, 0x00, 16) := by decide +kernel
theorem test_RR_D_with_carry_in :
    after ({ board [0xCB, 0x1A] with cpu.d := 0x01, cpu.f := Flags.ofByte 0x10 })
      (fun t => (t.cpu.d, t.cpu.f.toByte, t.cpu.pc, t.totalCycles)) = some (0x80, 0x10, 0xC002, 8) := by decide +kernel
theorem test_SLA_E :
    after ({ board [0xCB, 0x23] with cpu.e := 0xFF })
      (fun t => (t.cpu.e, t.cpu.f.toByte, t.cpu.pc, t.totalCycles)) = some (0xFE, 0x10, 0xC002, 8) := by decide +kernel
theorem test_SRA_H_keeps_bit_7 :
    after ({ board [0xCB, 0x2C] with cpu.h := 0x81 })
      (fun t => (t.cpu.h, t.cpu.f.toByte, t.cpu.pc, t.totalCycles)) = some (0xC0, 0x10, 0xC002, 8) := by decide +kernel
theorem test_SWAP_A :
    after ({ board [0xCB, 0x37] with cpu.a := 0xF0, cpu.f := Flags.ofByte 0x70 })
      (fun t => (t.cpu.a, t.cpu.f.toByte, t.cpu.pc, t.totalCycles)) = some (0x0F, 0x00, 0xC002, 8) := by decide +kernel
theorem test_SWAP_L_of_zero_C_cleared :
    after ({ board [0xCB, 0x35] with cpu.l := 0x00, cpu.f := Flags.ofByte 0x10 })
      (fun t => (t.cpu.f.toByte, t.cpu.pc, t.totalCycles)) = some (0x80, 0xC002, 8) := by decide +kernel
theorem test_SRL_A_to_zero :
    after ({ board [0xCB, 0x3F] with cpu.a := 0x01 })
      (fun t => (t.cpu.a, t.cpu.f.toByte, t.cpu.pc, t.totalCycles)) = some (0x00, 0x90, 0xC002, 8) := by decide +kernel
theorem test_BIT_7_H_of_0x7F_C_kept :
    after ({ board [0xCB, 0x7C] with cpu.h := 0x7F, cpu.f := Flags.ofByte 0x10 })
      (fun t => (t.cpu.f.toByte, t.cpu.pc, t.totalCycles)) = some (0xB0, 0xC002, 8) := by decide +kernel
theorem test_BIT_0_HL_set :
    after (placeByte 0xC040 0x01 ({ board [0xCB, 0x46] with cpu.h := 0xC0, cpu.l := 0x40 }))
      (fun t => (t.cpu.f.toByte, t.cpu.pc, t.totalCycles)) = some (0x20, 0xC002, 12) := by decide +kernel
theorem test_RES_3_HL_no_flags :
    after (placeByte 0xC040 0xFF ({ board [0xCB, 0x9E] with cpu.h := 0xC0, cpu.l := 0x40, cpu.f := Flags.ofByte 0xF0 }))
      (fun t => (t.cpu.pc, memRead t 0xC040, t.totalCycles)) = some (0xC002, 0xF7, 16) := by decide +kernel
theorem test_SET_7_A :
    after ({ board [0xCB, 0xFF] with cpu.a := 0x00 })
      (fun t => (t.cpu.a, t.cpu.pc, t.totalCycles)) = some (0x80, 0xC002, 8) := by decide +kernel
theorem test_RES_0_B :
    after ({ board [0xCB, 0x80] with cpu.b := 0x01, cpu.f := Flags.ofByte 0xB0 })
      (fun t => (t.cpu.b, t.cpu.pc, t.totalCycles)) = some (0x00, 0xC002, 8) := by decide +kernel
theorem test_JP_a16 :
    after (board [0xC3, 0x34, 0x12])
      (fun t => (t.cpu.pc, t.totalCycles)) = some (0x1234, 16) := by decide +kernel
theorem test_JP_NZ_not_taken :
    after ({ board [0xC2, 0x34, 0x12] with cpu.f := Flags.ofByte 0x80 })
      (fun t => (t.cpu.pc, t.totalCycles)) = some (0xC003, 12) := by decide +kernel
theorem test_JP_C_taken :
    after ({ board [0xDA, 0x00, 0xD0] with cpu.f := Flags.ofByte 0x10 })
      (fun t => (t.cpu.pc, t.totalCycles)) = some (0xD000, 16) := by decide +kernel
theorem test_JP_HL :
    after ({ board [0xE9] with cpu.h := 0x40, cpu.l := 0x00 })
      (fun t => (t.cpu.pc, t.totalCycles)) = some (0x4000, 4) := by decide +kernel
theorem test_JR_2_to_itself :
    after (board [0x18, 0xFE])
      (fun t => (t.cpu.pc, t.totalCycles)) = some (0xC000, 12) := by decide +kernel
theorem test_JR_127 :
    after (board [0x18, 0x7F])
      (fun t => (t.cpu.pc, t.totalCycles)) = some (0xC081, 12) := by decide +kernel
theorem test_JR_Z_not_taken :
    after ({ board [0x28, 0x10] with cpu.f := Flags.ofByte 0x00 })
      (fun t => (t.cpu.pc, t.totalCycles)) = some (0xC002, 8) := by decide +kernel
theorem test_JR_NC_taken :
    after ({ board [0x30, 0x10] with cpu.f := Flags.ofByte 0x00 })
      (fun t => (t.cpu.pc, t.totalCycles)) = some (0xC012, 12) := by decide +kernel
theorem test_CALL_a16 :
    after (board [0xCD, 0x00, 0xD0])
      (fun t => (t.cpu.sp, memRead t 0xDFEF, memRead t 0xDFEE, t.totalCycles)) = some (0xDFEE, 0xC0, 0x03, 24) := by decide +kernel
theorem test_CALL_NZ_not_taken :
    after ({ board [0xC4, 0x00, 0xD0] with cpu.f := Flags.ofByte 0x80 })
      (fun t => (t.cpu.pc, t.totalCycles)) = some (0xC003, 12) := by decide +kernel
theorem test_CALL_C_taken :
    after ({ board [0xDC, 0x00, 0xD0] with cpu.f := Flags.ofByte 0x10 })
      (fun t => (t.cpu.sp, memRead t 0xDFEF, memRead t 0xDFEE, t.totalCycles)) = some (0xDFEE, 0xC0, 0x03, 24) := by decide +kernel
theorem test_RET :
    after (placeByte 0xD001 0x12 (placeByte 0xD000 0x34 ({ board [0xC9] with cpu.sp := 0xD000 })))
      (fun t => (t.cpu.sp, t.cpu.pc, t.totalCycles)) = some (0xD002, 0x1234, 16) := by decide +kernel
theorem test_RET_Z_taken :
    after (placeByte 0xD001 0x12 (placeByte 0xD000 0x34 ({ board [0xC8] with cpu.sp := 0xD000, cpu.f := Flags.ofByte 0x80 })))
      (fun t => (t.cpu.sp, t.cpu.pc, t.totalCycles)) = some (0xD002, 0x1234, 20) := by decide +kernel
theorem test_RET_NC_not_taken :
    after ({ board [0xD0] with cpu.sp := 0xD000, cpu.f := Flags.ofByte 0x10 })
      (fun t => (t.cpu.pc, t.totalCycles)) = some (0xC001, 8) := by decide +kernel
theorem test_RETI_sets_IME_at_once :
    after (placeByte 0xD001 0x12 (placeByte 0xD000 0x34 ({ board [0xD9] with cpu.sp := 0xD000 })))
      (fun t => (t.cpu.sp, t.cpu.pc, t.cpu.ime, t.totalCycles)) = some (0xD002, 0x1234, true, 16) := by decide +kernel
theorem test_RST_38 :
    after ({ board [0xFF] with cpu.sp := 0xD000 })
      (fun t => (t.cpu.sp, memRead t 0xCFFF, memRead t 0xCFFE, t.totalCycles)) = some (0xCFFE, 0xC0, 0x01, 16) := by decide +kernel
theorem test_RST_00 :
    after ({ board [0xC7] with cpu.sp := 0xD000 })
      (fun t => (t.cpu.sp, memRead t 0xCFFF, memRead t 0xCFFE, t.totalCycles)) = some (0xCFFE, 0xC0, 0x01, 16) := by decide +kernel
theorem test_NOP :
    after (board [0x00])
      (fun t => (t.cpu.pc, t.totalCycles)) = some (0xC001, 4) := by decide +kernel
theorem test_HALT_IME_0_nothing_pending :
    after ({ board [0x76] with intr.ie := 0x04 })
      (fun t => (t.cpu.halted, t.cpu.pc, t.totalCycles)) = some (true, 0xC001, 4) := by decide +kernel
theorem test_HALT_IME_1_nothing_pending :
    after ({ board [0x76] with cpu.ime := true, intr.ie := 0x04 })
      (fun t => (t.cpu.halted, t.cpu.pc, t.totalCycles)) = some (true, 0xC001, 4) := by decide +kernel
theorem test_halted_step_nothing_pending :
    after ({ board [0x00] with cpu.halted := true, intr.ie := 0x04 })
      (fun t => (t.totalCycles)) = some (4) := by decide +kernel
theorem test_halted_IF_set_but_not_enabled_ENABLED_REQUEST :
    after ({ board [0x00] with cpu.halted := true, intr.ie := 0x01, intr.req := 0x04 })
      (fun t => (t.totalCycles)) = some (4) := by decide +kernel
theorem test_halted_same_with_HALT_WAKE_ANY_REQUEST :
    after ({ board [0x3C] with cpu.halted := true, intr.ie := 0x01, intr.req := 0x04, cfg := { haltWake := .anyRequest } })
      (fun t => (t.cpu.halted, t.cpu.a, t.cpu.pc, t.totalCycles)) = some (false, 0x01, 0xC001, 4) := by decide +kernel
theorem test_halted_enabled_request_IME_0_wake_and_fetch :
    after ({ board [0x3C] with cpu.halted := true, intr.ie := 0x04, intr.req := 0x04 })
      (fun t => (t.cpu.halted, t.cpu.a, t.cpu.pc, t.totalCycles)) = some (false, 0x01, 0xC001, 4) := by decide +kernel
theorem test_halted_enabled_request_IME_1_wake_and_dispatch :
    after ({ board [0x3C] with cpu.halted := true, cpu.ime := true, intr.ie := 0x04, intr.req := 0x04 })
      (fun t => (t.intr.req, t.cpu.sp, t.cpu.pc, memRead t 0xDFEF, memRead t 0xDFEE, t.totalCycles)) = some (0x00, 0xDFEE, 0x0050, 0xC0, 0x00, 20) := by decide +kernel
theorem test_STOP_STOP_MODE_LOW_POWER :
    after ({ board [0x10, 0x00, 0x3C] with timer.tac := 0x04, timer.div := 0x1234, cfg := { stopMode := .lowPower } })
      (fun t => (t.cpu.stopped, t.timer.div, t.timer.tima, t.totalCycles)) = some (true, 0x0004, 0x01, 4) := by decide +kernel
theorem test_DI :
    after ({ board [0xF3] with cpu.ime := true })
      (fun t => (t.cpu.ime, t.cpu.pc, t.totalCycles)) = some (false, 0xC001, 4) := by decide +kernel
theorem test_DI_cancels_a_pending_EI :
    after ({ board [0xF3] with cpu.imeDelay := true })
      (fun t => (t.cpu.imeDelay, t.cpu.pc, t.totalCycles)) = some (false, 0xC001, 4) := by decide +kernel
theorem test_EI_IME_still_0_after_its_own_step :
    after (board [0xFB])
      (fun t => (t.cpu.imeDelay, t.cpu.pc, t.totalCycles)) = some (true, 0xC001, 4) := by decide +kernel

/-! ### Witnesses: for every statement with hypotheses, states and operands that meet all of them

A statement of several clauses has a witness for each clause, at the boundary values of its range. -/

/-- A CPU whose next instruction is `code`, in a legal state. -/
theorem witness_board_legal : (board [0x3C]).ok = true ∧ (board [0x3C]).status = .running ∧ (board [0x3C]).cpu.stopped = false
    ∧ (board [0x3C]).cpu.halted = false ∧ interruptTaken (board [0x3C]) = none := by decide +kernel

theorem witness_DecodeOfEncode : (Instr.undefined 0xFD).wf = true ∧ (Instr.ld_BC_d16 0xFFFF).wf = true
    ∧ Instr.set_7_A.wf = true := by decide

theorem witness_EncodeOfDecode : decode [0x01, 0x34, 0x12, 0x00] = .ok (.ld_BC_d16 0x1234, [0x00])
    ∧ decode [0xCB, 0xFF] = .ok (.set_7_A, []) ∧ decode [0xD3] = .ok (.undefined 0xD3, []) := by decide

/-- The operands of the register forms: every operand of R174 but (HL), every pair of R175 and of R176. -/
theorem witness_operands : R8.b ≠ .atHL ∧ R8.a ≠ .atHL ∧ Pair.bc ≠ .af ∧ Pair.sp ≠ .af ∧ Pair.bc ≠ .sp ∧ Pair.af ≠ .sp
    ∧ R8.c ∉ regsOf .hl ∧ R8.a ∉ regsOf .sp := by decide

theorem witness_PushThenPopRestores :
    let s := board [0xC5, 0xC1]
    s.storesOk = true ∧ Pair.bc ≠ .sp ∧ plain (locate s (s.cpu.sp - 1)) = true ∧ plain (locate s (s.cpu.sp - 2)) = true
    ∧ locate s (s.cpu.sp - 1) ≠ locate s (s.cpu.sp - 2)
    ∧ (match exec (decodeAt (byte (0xC5 + 16 * codePair .bc)) 0 0) s with
        | .next t => (match exec (decodeAt (byte (0xC1 + 16 * codePair .af)) 0 0) t with
            | .next _ => true
            | _ => false)
        | _ => false) = true := by decide +kernel

/-- The largest two-digit decimal numbers, with and without a carry in. -/
theorem witness_DaaGivesDecimalResult :
    let s := { board [] with cpu.a := 0x99, cpu.f := ⟨false, false, false, true⟩ }
    s.cpu.a = bcd 99
    ∧ ([Instr.add_A_d8 (bcd 99), .adc_A_d8 (bcd 0), .sub_d8 (bcd 99), .sbc_A_d8 (bcd 99)].all fun i =>
        match exec i s with
        | .next t => (match exec .daa t with
            | .next _ => true
            | _ => false)
        | _ => false) = true := by decide +kernel

/-- Each condition of R177 holds on some flags and fails on others. -/
theorem witness_conditions : condition .nz {} ∧ ¬ condition .z {} ∧ condition .nc {} ∧ ¬ condition .c {}
    ∧ condition .z { z := true } ∧ ¬ condition .nz { z := true } ∧ condition .c { c := true }
    ∧ ¬ condition .nc { c := true } := by simp [condition]

/-- Both values of a bit, at bits 0 and 7. -/
theorem witness_BitResAndSet : (0 < 8 ∧ 7 < 8) ∧ (0x80 / 2 ^ 7 % 2 = 1 ∧ 0x7F / 2 ^ 7 % 2 = 0) := by decide

theorem witness_HaltCases_bug :
    let s := { board [0x76] with intr.ie := 0x10, intr.req := 0x10 }
    s.cpu.ime = false ∧ somePending s ∧ s.cfg.haltBug = true :=
  ⟨rfl, ⟨4, by decide, rfl, rfl⟩, rfl⟩

theorem witness_HaltCases_nop :
    let s := { board [0x76] with intr.ie := 0x01, intr.req := 0x01, cfg := { haltBug := false } }
    s.cpu.ime = false ∧ somePending s ∧ s.cfg.haltBug = false :=
  ⟨rfl, ⟨0, by decide, rfl, rfl⟩, rfl⟩

theorem witness_HaltCases_halts : { board [0x76] with cpu.ime := true }.cpu.ime = true := rfl

theorem witness_StopModes : (board [0x10, 0x00]).cfg.stopMode = .refuse
    ∧ { board [0x10, 0x00] with cfg := { stopMode := .lowPower } }.cfg.stopMode = .lowPower
    ∧ timerInput { (board []).timer with tac := 4, div := 0x0200 } = true ∧ timerInput (board []).timer = false := by
  decide +kernel

theorem witness_UndefinedOpcodeEndsRun :
    let s := board [0xDB]
    undefinedBytes.contains 0xDB = true ∧ s.status = .running ∧ s.cpu.stopped = false ∧ s.cpu.halted = false
    ∧ interruptTaken s = none ∧ memRead s s.cpu.pc = 0xDB := by decide +kernel

theorem witness_StepEnabledWhileRunning : (board []).status = .running
    ∧ { board [] with status := .faulted 0xDB 0xC000 }.status = .faulted 0xDB 0xC000
    ∧ { board [] with status := .refused 0xC000 0x00 }.status = .refused 0xC000 0x00 := by decide +kernel

/-- A taken and a not taken form, and the first and last opcodes of the map that the statement takes in. -/
theorem witness_CyclesAndFlagColumns : (0x20 : Byte) ≠ 0xCB ∧ (0x20 : Byte) ≠ 0x10 ∧ undefinedBytes.contains 0x20 = false
    ∧ undefinedBytes.contains 0x00 = false ∧ undefinedBytes.contains 0xFF = false
    ∧ condition (condAt 0x20) {} ∧ ¬ condition (condAt 0x20) { z := true } := by
  simp [condition, condAt, undefinedBytes]

/-- A storing form (PUSH BC) whose bytes are isolated, and an address elsewhere. -/
theorem witness_StoresChangeOnlyTheirBytes :
    let s := board [0xC5]
    (match exec (decodeAt 0xC5 0 0) s with
      | .next _ => true
      | _ => false) = true
    ∧ (storedAt 0xC5 0 0 s).all (fun x => isolated (locate s x)) = true
    ∧ (storedAt 0xC5 0 0 s).all (fun x => locate s 0xC000 != locate s x) = true := by decide +kernel

theorem witness_RegistersOutsideDestinationsKept : R8.b ∉ writtenRegs 0x3C 0 ∧ writesSp 0x3C = false
    ∧ (match exec (decodeAt 0x3C 0 0) (board []) with
        | .next _ => true
        | _ => false) = true := by decide +kernel

theorem witness_NonStoringFormsChangeOnlyCpu : (0x3C : Byte) ≠ 0x10 ∧ undefinedBytes.contains 0x3C = false
    ∧ storedAt 0x3C 0 0 (board []) = []
    ∧ (match exec (decodeAt 0x3C 0 0) (board []) with
        | .next _ => true
        | _ => false) = true := by decide +kernel

/-- Plain storage at both ends of work RAM and through the echo, an isolated target, and the ends of the echo window. -/
theorem witness_BusStorage :
    let s := board []
    s.storesOk = true ∧ plain (locate s 0xC000) = true ∧ plain (locate s 0xDFFF) = true ∧ plain (locate s 0xFFFF) = true
    ∧ locate s 0xE000 = locate s 0xC000 ∧ isolated (locate s 0xFF0F) = true ∧ locate s 0xC000 ≠ locate s 0xFF0F
    ∧ 0xE000 ≤ (0xE000 : Word).toNat ∧ (0xFDFF : Word).toNat ≤ 0xFDFF := by decide +kernel

/-- The ends of the ranges of the memory map, a legal PPU with the LCD off, and the ends of the ranges of inert bytes. -/
theorem witness_BusStorage_map :
    ([(0x8000, 0x9FFF), (0xC000, 0xDFFF), (0xE000, 0xFDFF), (0xFE00, 0xFE9F), (0xFEA0, 0xFEFF), (0xFF80, 0xFFFE)].all
      fun r => (BitVec.ofNat 16 r.1).toNat == r.1 && (BitVec.ofNat 16 r.2).toNat == r.2) = true
    ∧ (0xFFFF : Word).toNat = 0xFFFF ∧ ppuOk (board []).ppu = true ∧ lcdOn (board []).ppu = false
    ∧ (0x08 ≤ 0x0E ∧ 0x10 ≤ 0x3F ∧ 0x4C ≤ 0x4F ∧ 0x51 ≤ 0x7F) := by decide +kernel

/-- No controller, with and without RAM, at the ends of the windows. -/
theorem witness_WritesNeverChangeRom :
    let s := board []
    s.bank = .none ∧ s.cfg.ramSize = 0 ∧ 2 ≤ s.cfg.romBanks ∧ s.bootRomEnabled = false ∧ State.reset.bootRomEnabled = true
    ∧ { s with cfg := { ramSize := 2048 } }.cfg.ramSize ≠ 0 ∧ (0xFF : Word).toNat ≤ 0xFF ∧ 0x8000 ≤ (0x8000 : Word).toNat
    ∧ (0x7FFF : Word).toNat ≤ 0x7FFF ∧ 0xA000 ≤ (0xA000 : Word).toNat ∧ (0xBFFF : Word).toNat ≤ 0xBFFF := by
  decide +kernel

/-- An MBC1 cartridge with its RAM off and on, at the ends of the four register windows. -/
theorem witness_Mbc1Banking :
    let s := { board [] with bank := .mbc1 { ramEnable := true }, cfg := { ramSize := 8192 } }
    s.bank = .mbc1 { ramEnable := true } ∧ s.cfg.ramSize ≠ 0 ∧ s.bootRomEnabled = false ∧ ({} : Mbc1).ramEnable = false
    ∧ (0x1FFF : Word).toNat ≤ 0x1FFF ∧ 0x2000 ≤ (0x2000 : Word).toNat ∧ (0x3FFF : Word).toNat ≤ 0x3FFF
    ∧ 0x4000 ≤ (0x4000 : Word).toNat ∧ (0x5FFF : Word).toNat ≤ 0x5FFF ∧ 0x6000 ≤ (0x6000 : Word).toNat
    ∧ (0x7FFF : Word).toNat ≤ 0x7FFF ∧ 0xA000 ≤ (0xBFFF : Word).toNat ∧ (0xBFFF : Word).toNat ≤ 0xBFFF := by
  decide +kernel

/-- An MBC3 cartridge with a RAM bank selected (7 is the last select below the clock registers, 13 the first above them),
with a clock register selected (8 and 12), and with its RAM off. -/
theorem witness_Mbc3Banking :
    let s := { board [] with bank := .mbc3 { ramEnable := true, ramSel := 7 }, cfg := { ramSize := 8192 } }
    s.bank = .mbc3 { ramEnable := true, ramSel := 7 } ∧ s.cfg.ramSize ≠ 0 ∧ (7 : Byte).toNat < 8 ∧ 12 < (13 : Byte).toNat
    ∧ 8 ≤ (8 : Byte).toNat ∧ (12 : Byte).toNat ≤ 12 ∧ ({} : Mbc3).ramEnable = false ∧ (0x1FFF : Word).toNat ≤ 0x1FFF
    ∧ 0x6000 ≤ (0x6000 : Word).toNat ∧ 0xA000 ≤ (0xA000 : Word).toNat ∧ (0xBFFF : Word).toNat ≤ 0xBFFF
    ∧ { s with cfg := {} }.cfg.ramSize = 0 := by
  decide +kernel

theorem witness_OamDmaCopies : (board []).storesOk = true ∧ 159 < 160 := by decide +kernel

/-- LCDC off and on at bit 7's boundary. -/
theorem witness_LcdSwitch : (0x7F : Byte).toNat < 128 ∧ 128 ≤ (0x80 : Byte).toNat ∧ (board []).ppu.lcdc.toNat < 128
    ∧ 128 ≤ { board [] with ppu.lcdc := 0x80 }.ppu.lcdc.toNat := by decide +kernel

/-- A step of a running CPU: the word at PC decodes; a form that goes on and one that ends the run. -/
theorem witness_StepRunsDecodedInstruction :
    let s := board [0x3C]
    s.status = .running ∧ s.cpu.stopped = false ∧ s.cpu.halted = false ∧ interruptTaken s = none
    ∧ decode (fetchBytes s) = .ok (.inc_A, [0x00, 0x00])
    ∧ (match exec .inc_A s with
        | .next t => t.status == .running
        | _ => false) = true
    ∧ decode (fetchBytes (board [0xDB])) = .ok (.undefined 0xDB, [0x00, 0x00])
    ∧ (match exec (.undefined 0xDB) (board [0xDB]) with
        | .next t => t.status == .faulted 0xDB 0xC000
        | _ => false) = true := by decide +kernel

theorem witness_HaltBugReadsByteTwice : 1 ≤ 1 ∧ (board []).cpu.haltBug = false
    ∧ { board [] with cpu.haltBug := true }.cpu.haltBug = true := by decide +kernel

/-- The highest and the lowest priority. -/
theorem witness_PendingVectorIsLowestBit :
    pendingVector { board [] with intr.ie := 0x1F, intr.req := 0x1F } = some (0, 0x0040)
    ∧ pendingVector { board [] with intr.ie := 0x10, intr.req := 0x1F } = some (4, 0x0060)
    ∧ pendingVector { board [] with intr.ie := 0xE0, intr.req := 0x1F } = none := by decide +kernel

theorem witness_InterruptDispatch :
    let s := { board [0x00] with cpu.ime := true, cpu.halted := true, intr.ie := 0x10, intr.req := 0x10 }
    s.status = .running ∧ s.cpu.stopped = false ∧ s.cpu.ime = true ∧ pendingVector s = some (4, 0x0060)
    ∧ s.storesOk = true ∧ plain (locate s (s.cpu.sp - 1)) = true ∧ plain (locate s (s.cpu.sp - 2)) = true
    ∧ locate s (s.cpu.sp - 1) ≠ locate s (s.cpu.sp - 2) := by decide +kernel

/-- Each of the three clauses: an EI, a DI, and another instruction with the delay set. -/
theorem witness_EiTakesEffectOneInstructionLater :
    (let s := board [0xFB]
     s.status = .running ∧ s.cpu.stopped = false ∧ s.cpu.halted = false ∧ interruptTaken s = none
     ∧ fetchInstr s = .ei ∧ s.cpu.imeDelay = false ∧ (after s fun _ => true) = some true)
    ∧ (let s := board [0xF3]
       fetchInstr s = .di ∧ (after s fun _ => true) = some true)
    ∧ (let s := { board [0x00] with cpu.imeDelay := true }
       s.cpu.imeDelay = true ∧ fetchInstr s ≠ .di ∧ (after s fun t => t.status == .running) = some true) := by
  decide +kernel

/-- A halted CPU under each wake condition: neither request nor enable, and the request alone. -/
theorem witness_WaitingStates_halted :
    let s := { board [] with cpu.halted := true, intr.req := 0x10 }
    s.status = .running ∧ s.cpu.stopped = false ∧ s.cpu.halted = true ∧ ¬ wakeCondition s
    ∧ wakeCondition { s with cfg := { haltWake := .anyRequest } } ∧ wakeCondition { s with intr.ie := 0x10 } := by
  refine ⟨rfl, rfl, rfl, ?_, ⟨4, by decide, rfl⟩, ⟨4, by decide, rfl, rfl⟩⟩
  rintro ⟨k, -, -, h⟩
  exact absurd h (by simp [board, placeBytes])

/-- A stopped CPU with no button, and with a button of a selected group. -/
theorem witness_WaitingStates_stopped :
    let s := { board [] with cpu.stopped := true, cfg := { stopMode := .lowPower } }
    s.status = .running ∧ s.cpu.stopped = true ∧ (p1Read s.joy).toNat % 16 = 15
    ∧ (p1Read { s.joy with dirs := 1 }).toNat % 16 ≠ 15 := by decide +kernel

theorem witness_CycleAccounting : (after (board [0x3C]) fun t => t.status == .running) = some true := by decide +kernel

theorem witness_TimerCountsOncePerPeriod : { (board []).timer with tac := 5, tima := 0xFF }.tac.getLsbD 2 = true
    ∧ (board []).timer.tac.getLsbD 2 = false ∧ (board []).timer.tima ≠ 0xFF := by decide +kernel

/-- The PPU right after the LCD is switched on, and on the last dot before line 144. -/
theorem witness_OneFrameOneVBlank :
    ppuOk { ({} : Ppu) with lcdc := 0x80, mode := .oamScan } = true ∧ lcdOn { ({} : Ppu) with lcdc := 0x80 } = true
    ∧ ppuOk { ({} : Ppu) with lcdc := 0x80, mode := .hBlank, ly := 143, dot := 455 } = true := by decide +kernel

/-- The clauses of one dot: the LCD off and on, the two mode entries of the last visible line, the last dot of the lines
before 0, 144 and 145, and dots that enter nothing. -/
theorem witness_OneFrameOneVBlank_dot :
    (0x7F : Byte).getLsbD 7 = false ∧ (0x80 : Byte).getLsbD 7 = true ∧ 143 < 144 ∧ 79 + 1 = 80 ∧ 251 + 1 = 252
    ∧ (153 + 1) % 154 < 144 ∧ 455 + 1 = 456 ∧ (143 + 1) % 154 = 144 ∧ 144 < (144 + 1) % 154
    ∧ 80 + 1 ≠ 456 ∧ 80 + 1 ≠ 80 ∧ 80 + 1 ≠ 252 ∧ 144 ≤ 144 := by decide

/-- LY = LYC and the mode entry together request LCD-STAT, and line 144 requests VBlank (R472, R475, R476). -/
theorem test_stat_requests :
    let s := { board [] with ppu := { ({} : Ppu) with lcdc := 0x80, dot := 455, ly := 143, lyc := 144, stat := 8 } }
    (ppuTick s).intr.req = 0b11 ∧ (ppuTick { s with ppu.lyc := 143 }).intr.req = 0b01
    ∧ (ppuTick { s with ppu.ly := 10, ppu.stat := 4 }).intr.req = 0b10
    ∧ (ppuTick { s with ppu.ly := 10, ppu.dot := 251, ppu.stat := 1 }).intr.req = 0b10 := by decide +kernel

theorem witness_RenderWritesOneRow : (board []).storesOk = true ∧ 159 < 160 ∧ 143 ≠ 0
    ∧ (board []).ppu.lcdc.getLsbD 0 = false ∧ { ({} : Ppu) with lcdc := 0x91 }.lcdc.getLsbD 0 = true
    ∧ lcdOn { ({} : Ppu) with lcdc := 0x91 } = true ∧ { ({} : Ppu) with ly := 143, dot := 79 }.ly < 144 := by decide +kernel

theorem witness_ResetValues : ({} : Config).skipBoot = false ∧ ({ skipBoot := true } : Config).skipBoot = true := by decide

/-- Each reason of R604, at its boundary. -/
theorem witness_LoadValidation : loadProblem { romLen := 32767 } (some .none) = some .tooShort
    ∧ loadProblem { romLen := 32769 } (some .none) = some .notWholeBanks ∧ loadProblem {} none = some .unknownKind
    ∧ loadProblem { ramSize := 1 } (some .mbc1) = some .badRamSize ∧ loadProblem {} (some .mbc3) = none := by decide

theorem witness_StepKeepsStateLegal : State.reset.ok = true ∧ (after State.reset fun _ => true) = some true := by
  decide +kernel

/-- The boot ROM off and on, and the three controllers. -/
theorem witness_StepKeepsParametersAndLatch :
    (after (board []) fun _ => true) = some true ∧ (board []).bootRomEnabled = false ∧ (board []).bank = .none
    ∧ (after { board [] with bank := .mbc1 {} } fun _ => true) = some true
    ∧ (after { board [] with bank := .mbc3 {} } fun _ => true) = some true := by decide +kernel

end Sys2Proof.Tests
end

section
/-! PROOFS. What is fixed for a run (00_scope.md R8): no step changes the parameters, the controller kind or the host's
button masks, and the boot ROM, once off, stays off (10_state.md R70, R78). -/
namespace Sys2Proof.Machine

/-- The controller kind that a bank state is tagged with (R77, R120). -/
def BankState.kind : BankState → CartKind
  | .none => .none
  | .mbc1 _ => .mbc1
  | .mbc3 _ => .mbc3

@[simp] theorem BankState.kind_initial (k : CartKind) : (BankState.initial k).kind = k := by cases k <;> rfl

theorem BankState.kind_eq_none (b : BankState) : b.kind = .none ↔ b = .none := by cases b <;> simp [kind]
theorem BankState.kind_eq_mbc1 (b : BankState) : b.kind = .mbc1 ↔ ∃ m, b = .mbc1 m := by cases b <;> simp [kind]
theorem BankState.kind_eq_mbc3 (b : BankState) : b.kind = .mbc3 ↔ ∃ m, b = .mbc3 m := by cases b <;> simp [kind]

/-- From `s` to `t` the parameters, the controller kind and the buttons are kept, and a boot ROM that is off stays off. -/
structure KeepsSetup (s t : State) : Prop where
  cfg : t.cfg = s.cfg
  dirs : t.joy.dirs = s.joy.dirs
  acts : t.joy.acts = s.joy.acts
  bootOff : s.bootRomEnabled = false → t.bootRomEnabled = false
  kind : t.bank.kind = s.bank.kind

theorem KeepsSetup.trans {s t u : State} (h : KeepsSetup s t) (h' : KeepsSetup t u) : KeepsSetup s u :=
  ⟨h'.cfg.trans h.cfg, h'.dirs.trans h.dirs, h'.acts.trans h.acts, h'.bootOff ∘ h.bootOff, h'.kind.trans h.kind⟩

/-- A state with the same parameters, joypad, latch and bank registers. -/
theorem KeepsSetup.ofEq {s t : State} (hcfg : t.cfg = s.cfg) (hjoy : t.joy = s.joy)
    (hboot : t.bootRomEnabled = s.bootRomEnabled) (hbank : t.bank = s.bank) : KeepsSetup s t :=
  ⟨hcfg, by rw [hjoy], by rw [hjoy], by rw [hboot]; exact id, by rw [hbank]⟩

/-! ### Stores -/

/-- A write to bank control never changes the controller kind (R120). -/
@[simp] theorem cartWrite_kind (b : BankState) (n : Nat) (v : Byte) : (cartWrite b n v).kind = b.kind := by
  cases b with
  | none => rfl
  | mbc1 m => simp only [cartWrite]; split_ifs <;> rfl
  | mbc3 m => simp only [cartWrite]; split_ifs <;> rfl

/-- No I/O register reaches the bank registers (R77), and the boot latch is cleared by BOOT and left by all the others (R70). -/
theorem ioWrite_bank_bootRomEnabled (s : State) (r : IoReg) (v : Byte) :
    (ioWrite s r v).bank = s.bank
    ∧ (ioWrite s r v).bootRomEnabled = if r = .boot then false else s.bootRomEnabled := by
  cases r
  case p1 => simp only [ioWrite, writeP1]; rw [joypadChange_eq]; exact ⟨rfl, rfl⟩
  case div => simp only [ioWrite, resetDiv]; rw [timerEdge_eq]; exact ⟨rfl, rfl⟩
  case tac => simp only [ioWrite, writeTac]; rw [timerEdge_eq]; exact ⟨rfl, rfl⟩
  case lcdc => simp only [ioWrite]; rw [writeLcdc_eq]; exact ⟨rfl, rfl⟩
  case dma => simp only [ioWrite, writeDma]; rw [dmaCopy_eq]; exact ⟨rfl, rfl⟩
  all_goals exact ⟨rfl, rfl⟩

@[simp] theorem ioWrite_bank (s : State) (r : IoReg) (v : Byte) : (ioWrite s r v).bank = s.bank :=
  (ioWrite_bank_bootRomEnabled s r v).1

theorem ioWrite_bootRomEnabled (s : State) (r : IoReg) (v : Byte) :
    (ioWrite s r v).bootRomEnabled = if r = .boot then false else s.bootRomEnabled :=
  (ioWrite_bank_bootRomEnabled s r v).2

/-- A write changes the bank registers of a controller but never its kind (R77, R120). -/
theorem writeTarget_kind (s : State) (x : Target) (v : Byte) : (writeTarget s x v).bank.kind = s.bank.kind := by
  cases x
  case cart n => exact cartWrite_kind s.bank n v
  case io r => exact congrArg _ (ioWrite_bank s r v)
  all_goals rfl

/-- No write sets the boot latch again (R116). -/
theorem writeTarget_bootOff (s : State) (x : Target) (v : Byte) (h : s.bootRomEnabled = false) :
    (writeTarget s x v).bootRomEnabled = false := by
  cases x
  case io r => simp only [writeTarget, ioWrite_bootRomEnabled, h, ite_self]
  all_goals exact h

/-- No byte stored on the Bus changes what is fixed for the run. -/
theorem memWrite_keepsSetup (s : State) (a : Word) (v : Byte) : KeepsSetup s (memWrite s a v) :=
  have same := memWrite_same s a v
  ⟨same.cfg, same.dirs, same.acts, writeTarget_bootOff s _ v, writeTarget_kind s _ v⟩

theorem storeAll_keepsSetup (ws : List (Word × Byte)) (s : State) : KeepsSetup s (storeAll ws s) := by
  induction ws generalizing s with
  | nil => exact .ofEq rfl rfl rfl rfl
  | cons w ws ih => exact (memWrite_keepsSetup s w.1 w.2).trans (ih _)

/-! ### Instructions, dispatches and the devices -/

theorem Effect.keepsSetup {ws : List (Word × Byte)} {s t : State} (h : Effect ws s t) : KeepsSetup s t := by
  rw [Effect] at h
  rw [h]
  exact (storeAll_keepsSetup ws s).trans (.ofEq rfl rfl rfl rfl)

theorem exec_stop_keepsSetup {x : Byte} {s t : State} (h : exec_stop x s = .next t) : KeepsSetup s t := by
  simp only [exec_stop] at h
  split at h
  · cases h; exact .ofEq rfl rfl rfl rfl
  · cases h; rw [stopOp_eq]; exact .ofEq rfl rfl rfl rfl

/-- Every instruction keeps the setup: by its stores, but for STOP and the undefined bytes, which store nothing. -/
theorem exec_keepsSetup {i : Instr} {s t : State} (h : exec i s = .next t) : KeepsSetup s t := by
  cases hs : (shapeOf i).special with
  | false =>
    obtain ⟨u, hu, heff, -⟩ := exec_effect i s hs
    obtain rfl : u = t := by rw [hu] at h; injection h
    exact heff.keepsSetup
  | true =>
    obtain ⟨x, rfl⟩ | ⟨op, rfl⟩ := special_cases i hs
    · exact exec_stop_keepsSetup h
    · cases h; exact .ofEq rfl rfl rfl rfl

theorem dispatch_keepsSetup (k : Nat) (vec : Word) (s : State) : KeepsSetup s (dispatch k vec s) := by
  rw [dispatch_eq]
  exact (storeAll_keepsSetup _ s).trans (.ofEq rfl rfl rfl rfl)

theorem settleIme_keepsSetup (e : Bool) (s : State) : KeepsSetup s (settleIme e s) := by
  rw [settleIme]; split <;> exact .ofEq rfl rfl rfl rfl

theorem advanceDevices_keepsSetup (s : State) : KeepsSetup s (advanceDevices s) := by
  simp only [advanceDevices]
  rw [ppuAdvance_eq, timerAdvance_eq]
  exact .ofEq rfl rfl rfl rfl

theorem wake_keepsSetup (s : State) : KeepsSetup s (unhalt (unstop s)) := .ofEq rfl rfl rfl rfl

/-- The five ways of a step: none changes what is fixed for the run. -/
theorem step_keepsSetup {s t : State} (h : step s = .next t) : KeepsSetup s t := by
  cases (step_cases h).2 with
  | stopped _ e =>
    have hc : KeepsSetup s (withCycles 0 s) := .ofEq rfl rfl rfl rfl
    rw [e]; exact hc.trans (advanceDevices_keepsSetup _)
  | halted _ _ e =>
    have hc : KeepsSetup s (withCycles 4 (unstop s)) := .ofEq rfl rfl rfl rfl
    rw [e]; exact hc.trans (advanceDevices_keepsSetup _)
  | dispatched k vec _ e =>
    rw [e]; exact ((wake_keepsSetup s).trans (dispatch_keepsSetup k vec _)).trans (advanceDevices_keepsSetup _)
  | ran u hx _ e =>
    have hu : KeepsSetup s u := (wake_keepsSetup s).trans (exec_keepsSetup hx)
    rw [e]; exact (hu.trans (settleIme_keepsSetup _ u)).trans (advanceDevices_keepsSetup _)
  | ended u hx _ e => rw [e]; exact (wake_keepsSetup s).trans (exec_keepsSetup hx)

end Sys2Proof.Machine

namespace Sys2Proof.Certificates
open Sys2Proof.Machine

/-- Settles O60, by the five ways a step answers a next state, each of which keeps the setup. -/
theorem stepKeepsParametersAndLatch : Obligations.StepKeepsParametersAndLatch := by
  intro s t h
  have keeps := step_keepsSetup h
  refine ⟨keeps.cfg, keeps.dirs, keeps.acts, keeps.bootOff, ?_, ?_, ?_⟩
  · rw [← BankState.kind_eq_none, ← BankState.kind_eq_none, keeps.kind]
  · rw [← BankState.kind_eq_mbc1, ← BankState.kind_eq_mbc1, keeps.kind]
  · rw [← BankState.kind_eq_mbc3, ← BankState.kind_eq_mbc3, keeps.kind]

end Sys2Proof.Certificates
end

section
/-! PROOFS. The state after reset (10_state.md R85, 70_reset_and_hazards.md R600, R602). -/
namespace Sys2Proof.Machine

theorem resetWith_boot {cfg : Config} (h : cfg.skipBoot = false) (kind : CartKind) (w : InitDraw) :
    State.resetWith cfg kind w = State.resetBoot cfg kind w := by
  simp [State.resetWith, h]

theorem resetWith_skipBoot {cfg : Config} (h : cfg.skipBoot = true) (kind : CartKind) (w : InitDraw) :
    State.resetWith cfg kind w = (State.resetBoot cfg kind w).skipBoot := by
  simp [State.resetWith, h]

/-- The pairs that SKIP_BOOT sets (R602), whatever the state before. -/
theorem skipBoot_pairs (s : State) :
    getPair s.skipBoot.cpu .af = 0x01B0 ∧ getPair s.skipBoot.cpu .bc = 0x0013
    ∧ getPair s.skipBoot.cpu .de = 0x00D8 ∧ getPair s.skipBoot.cpu .hl = 0x014D := by
  simp only [State.skipBoot, getPair]
  decide

end Sys2Proof.Machine

namespace Sys2Proof.Certificates
open Sys2Proof.Machine

/-- Settles O58, part by part of the invariant. -/
theorem resetIsLegal : Obligations.ResetIsLegal :=
  ⟨(ok_iff _).2 ⟨reset_storesOk, by decide, by decide, by decide⟩, rfl⟩

/-- Settles O56: without SKIP_BOOT the state is `resetBoot`, with it `skipBoot` of that, and each field is its value. -/
theorem resetValues : Obligations.ResetValues := by
  intro cfg kind w
  constructor
  · intro h
    have bank : (State.resetBoot cfg kind w).bank = (match kind with
        | .none => .none
        | .mbc1 => .mbc1 ⟨false, 1, 0, false⟩
        | .mbc3 => .mbc3 ⟨false, 1, 0⟩) := by cases kind <;> rfl
    rw [resetWith_boot h]
    exact ⟨rfl, rfl, rfl, rfl, rfl, rfl, rfl, rfl, rfl, rfl, rfl, rfl, rfl, rfl, rfl, bank, rfl, rfl, rfl, rfl, rfl,
      rfl, rfl, rfl, rfl, rfl, rfl, rfl, rfl, rfl, rfl⟩
  · intro h
    rw [resetWith_skipBoot h]
    obtain ⟨af, bc, de, hl⟩ := skipBoot_pairs (State.resetBoot cfg kind w)
    exact ⟨af, bc, de, hl, rfl, rfl, rfl, rfl, rfl, rfl, rfl, rfl, rfl, rfl, rfl, rfl, rfl, rfl, rfl⟩

end Sys2Proof.Certificates
end

section
/-! PROOFS. The registers, their pairs and the flag byte (10_state.md R30, R31, R33). -/
namespace Sys2Proof

theorem mk16_and (h l h' l' : Byte) : mk16 h l &&& mk16 h' l' = mk16 (h &&& h') (l &&& l') := BitVec.and_append

/-- The mask of R33 on the two halves of a word: only the low nibble is dropped. -/
theorem and_FFF0 (v : Word) : v &&& 0xFFF0 = mk16 (hiByte v) (loByte v &&& 0xF0) := by
  have mask : (0xFFF0 : Word) = mk16 (BitVec.allOnes 8) 0xF0 := rfl
  calc v &&& 0xFFF0 = mk16 (hiByte v) (loByte v) &&& mk16 (BitVec.allOnes 8) 0xF0 := by rw [mk16_hiByte_loByte, mask]
    _ = mk16 (hiByte v) (loByte v &&& 0xF0) := by rw [mk16_and, BitVec.and_allOnes]

namespace Machine

/-- A flag byte that is written and read back loses its low nibble (R33). -/
theorem Flags.toByte_ofByte (v : Byte) : (Flags.ofByte v).toByte = v &&& 0xF0 := by revert v; decide

theorem Flags.toByte_bits (f : Flags) :
    f.toByte.getLsbD 7 = f.z ∧ f.toByte.getLsbD 6 = f.n ∧ f.toByte.getLsbD 5 = f.h ∧ f.toByte.getLsbD 4 = f.c
    ∧ f.toByte &&& 0x0F = 0 := by
  obtain ⟨z, n, h, c⟩ := f
  revert z n h c; decide

theorem getPair_setPair (c : Cpu) (p : Pair) (v : Word) :
    getPair (setPair c p v) p = if p = .af then v &&& 0xFFF0 else v := by
  cases p
  case af => rw [if_pos rfl, and_FFF0, ← Flags.toByte_ofByte]; rfl
  all_goals simp [getPair, setPair]

/-- The seven registers are separate cells: a write of one is read back and seen at no other (R30). -/
theorem rd8_wr8 (s : State) {r q : R8} (v : Byte) (hr : r ≠ .atHL) (hq : q ≠ .atHL) :
    rd8 (wr8 s r v) q = if q = r then v else rd8 s q := by
  cases r
  case atHL => exact absurd rfl hr
  all_goals
    cases q
    case atHL => exact absurd rfl hq
    all_goals rfl

/-- A register write changes that register and nothing else of the CPU or the machine. -/
theorem wr8_frame (s : State) {r : R8} (v : Byte) (hr : r ≠ .atHL) :
    wr8 s r v = { s with cpu := (wr8 s r v).cpu } ∧ (wr8 s r v).cpu.f = s.cpu.f ∧ (wr8 s r v).cpu.sp = s.cpu.sp
    ∧ (wr8 s r v).cpu.pc = s.cpu.pc := by
  cases r
  case atHL => exact absurd rfl hr
  all_goals exact ⟨rfl, rfl, rfl, rfl⟩

/-- A pair write changes only the registers of the pair (R31). -/
theorem rd8_withPair (s : State) {p : Pair} (v : Word) {r : R8} (hr : r ≠ .atHL) (h : r ∉ Certificates.regsOf p) :
    rd8 (withPair s p v) r = rd8 s r := by
  cases p <;> cases r <;> simp_all [Certificates.regsOf, rd8, setPair]

end Machine
end Sys2Proof

namespace Sys2Proof.Certificates
open Sys2Proof.Machine

/-- Settles O5, from the read-after-write rules of registers, pairs and the flag byte. -/
theorem registersAndPairs : Obligations.RegistersAndPairs := by
  refine ⟨fun s r q v hr hq => ⟨?_, fun hne => ?_, wr8_frame s v hr⟩, getPair_setPair, fun s p v r => rd8_withPair s v,
    fun s p v => ⟨?_, ?_, setPair_pc .., setPair_ime ..⟩, fun c => ⟨rfl, rfl, rfl, rfl⟩, Flags.toByte_bits,
    Flags.toByte_ofByte⟩
  · rw [rd8_wr8 s v hr hr, if_pos rfl]
  · rw [rd8_wr8 s v hr hq, if_neg hne]
  · cases p <;> simp [setPair]
  · cases p <;> simp [setPair]

end Sys2Proof.Certificates
end

section
/-! PROOFS. The rules of the Bus: which addresses a target has (20_memory.md R110 to R114), what a write to it leaves,
and what is read after it (R106, R111). -/
namespace Sys2Proof.Machine
open Certificates (plain isolated)

/-! ### The address decoder -/

/-- The addresses that a target is decoded from (R110, R111). -/
def Target.hasAddress : Target → Nat → Prop
  | .cart n, a => a = n ∧ a ≤ 0x7FFF
  | .vram i, a => a = 0x8000 + i
  | .xram _, a | .xramOff, a | .rtc, a => 0xA000 ≤ a ∧ a ≤ 0xBFFF
  | .wram i, a => a = 0xC000 + i ∨ a = 0xE000 + i
  | .oam i, a => a = 0xFE00 + i
  | .unusable, a => 0xFEA0 ≤ a ∧ a ≤ 0xFEFF
  | .io r, a => 0xFF00 ≤ a ∧ a ≤ 0xFF7F ∧ ioReg (a - 0xFF00) = r
  | .hram i, a => a = 0xFF80 + i
  | .ie, a => a = 0xFFFF

/-- The RAM window is decoded to cartridge RAM, the disabled window or an RTC register. -/
theorem xramTarget_cases (s : State) (o : Nat) :
    (∃ i, xramTarget s o = .xram i) ∨ xramTarget s o = .xramOff ∨ xramTarget s o = .rtc := by
  unfold xramTarget
  split <;> split_ifs <;> simp

theorem locate_hasAddress (s : State) (a : Word) : (locate s a).hasAddress a.toNat := by
  have ha := a.isLt
  unfold locate locateNat
  split_ifs
  case pos => exact ⟨rfl, ‹_›⟩
  case pos => simp only [Target.hasAddress]; omega
  case pos => obtain ⟨i, h⟩ | h | h := xramTarget_cases s (a.toNat - 0xA000) <;> rw [h] <;> exact ⟨by omega, by omega⟩
  all_goals simp only [Target.hasAddress, and_true]; omega

theorem ioReg_eq_boot {k : Nat} (h : ioReg k = .boot) : k = 0x50 := by
  unfold ioReg at h; split at h <;> simp_all

theorem ioReg_eq_dma {k : Nat} (h : ioReg k = .dma) : k = 0x46 := by
  unfold ioReg at h; split at h <;> simp_all

theorem locate_boot {s : State} {a : Word} (h : locate s a = .io .boot) : a = 0xFF50 := by
  have ha := locate_hasAddress s a
  rw [h] at ha
  obtain ⟨lo, -, reg⟩ := ha
  have := ioReg_eq_boot reg
  bv_omega

theorem locate_dma {s : State} {a : Word} (h : locate s a = .io .dma) : a = 0xFF46 := by
  have ha := locate_hasAddress s a
  rw [h] at ha
  obtain ⟨lo, -, reg⟩ := ha
  have := ioReg_eq_dma reg
  bv_omega

section
variable (s : State) (a : Word)

theorem locate_cart (h : a.toNat ≤ 0x7FFF) : locate s a = .cart a.toNat := by
  rw [locate, locateNat, if_pos h]

theorem locate_vram (h : 0x8000 ≤ a.toNat) (h' : a.toNat ≤ 0x9FFF) : locate s a = .vram (a.toNat - 0x8000) := by
  rw [locate, locateNat, if_neg (by omega), if_pos h']

theorem locate_window (h : 0xA000 ≤ a.toNat) (h' : a.toNat ≤ 0xBFFF) :
    locate s a = xramTarget s (a.toNat - 0xA000) := by
  rw [locate, locateNat, if_neg (by omega), if_neg (by omega), if_pos h']

theorem locate_wram (h : 0xC000 ≤ a.toNat) (h' : a.toNat ≤ 0xDFFF) : locate s a = .wram (a.toNat - 0xC000) := by
  rw [locate, locateNat, if_neg (by omega), if_neg (by omega), if_neg (by omega), if_pos h']

theorem locate_echo (h : 0xE000 ≤ a.toNat) (h' : a.toNat ≤ 0xFDFF) : locate s a = .wram (a.toNat - 0xE000) := by
  rw [locate, locateNat, if_neg (by omega), if_neg (by omega), if_neg (by omega), if_neg (by omega), if_pos h']

theorem locate_oam (h : 0xFE00 ≤ a.toNat) (h' : a.toNat ≤ 0xFE9F) : locate s a = .oam (a.toNat - 0xFE00) := by
  rw [locate, locateNat, if_neg (by omega), if_neg (by omega), if_neg (by omega), if_neg (by omega), if_neg (by omega),
    if_pos h']

theorem locate_unusable (h : 0xFEA0 ≤ a.toNat) (h' : a.toNat ≤ 0xFEFF) : locate s a = .unusable := by
  rw [locate, locateNat, if_neg (by omega), if_neg (by omega), if_neg (by omega), if_neg (by omega), if_neg (by omega),
    if_neg (by omega), if_pos h']

theorem locate_io (h : 0xFF00 ≤ a.toNat) (h' : a.toNat ≤ 0xFF7F) : locate s a = .io (ioReg (a.toNat - 0xFF00)) := by
  rw [locate, locateNat, if_neg (by omega), if_neg (by omega), if_neg (by omega), if_neg (by omega), if_neg (by omega),
    if_neg (by omega), if_neg (by omega), if_pos h']

theorem locate_hram (h : 0xFF80 ≤ a.toNat) (h' : a.toNat ≤ 0xFFFE) : locate s a = .hram (a.toNat - 0xFF80) := by
  rw [locate, locateNat, if_neg (by omega), if_neg (by omega), if_neg (by omega), if_neg (by omega), if_neg (by omega),
    if_neg (by omega), if_neg (by omega), if_neg (by omega), if_pos h']

end

/-- The low bytes of R59 and R71 name no register but their own storage byte. -/
theorem ioReg_inert {k : Nat}
    (h : k = 0x03 ∨ (0x08 ≤ k ∧ k ≤ 0x0E) ∨ (0x10 ≤ k ∧ k ≤ 0x3F) ∨ (0x4C ≤ k ∧ k ≤ 0x4F) ∨ (0x51 ≤ k ∧ k ≤ 0x7F)) :
    ioReg k = .inert k := by
  unfold ioReg
  split <;> simp_all

/-! ### Reading after a write -/

/-- Only a write of bank control reaches the bank registers (R77). -/
theorem writeTarget_bank (s : State) {x : Target} (v : Byte) (h : ∀ n, x ≠ .cart n) :
    (writeTarget s x v).bank = s.bank := by
  cases x
  case cart n => exact absurd rfl (h n)
  case io r => exact ioWrite_bank s r v
  all_goals rfl

theorem isolated_ne_cart {x : Target} (h : isolated x = true) (n : Nat) : x ≠ .cart n := by
  rintro rfl; simp [isolated, plain] at h

theorem isolated_of_plain {x : Target} (h : plain x = true) : isolated x = true := by
  unfold isolated; split <;> simp [h]

/-- A write that is no bank control leaves the decoding of every address. -/
theorem locate_memWrite (s : State) {a : Word} (v : Byte) (h : ∀ n, locate s a ≠ .cart n) (b : Word) :
    locate (memWrite s a v) b = locate s b :=
  locate_congr (writeTarget_bank s v h) (memWrite_cfg s a v) b

/-- Plain storage reads back the byte written (R106). -/
theorem readTarget_writeTarget_same {s : State} (hs : s.storesOk = true) {x : Target} (hx : plain x = true) (v : Byte) :
    readTarget (writeTarget s x v) x = v := by
  obtain ⟨⟨vram, -⟩, ⟨wram, -⟩, ⟨oam, -⟩, ⟨hram, -⟩, ⟨xram, -⟩, ⟨io, -⟩, -⟩ := (storesOk_iff s).1 hs
  cases x
  case vram i => exact Store.read_write_same vram i v
  case wram i => exact Store.read_write_same wram i v
  case oam i => exact Store.read_write_same oam i v
  case hram i => exact Store.read_write_same hram i v
  case xram i => exact Store.read_write_same xram i v
  case ie => rfl
  case io r =>
    cases r
    case inert k => exact Store.read_write_same io k v
    case p1 | div | tac | irq | lcdc | stat | ly | lyc | dma | boot => simp [plain] at hx
    all_goals rfl
  all_goals simp [plain] at hx

/-- A write to an isolated register of the I/O page is seen at no other register. -/
theorem ioRead_ioWrite_ne (s : State) {r q : IoReg} (hr : isolated (.io r) = true) (v : Byte) (hne : q ≠ r) :
    ioRead (ioWrite s r v) q = ioRead s q := by
  cases r
  case inert k =>
    cases q
    case inert j => exact Store.read_write_ne _ v (by simpa using hne)
    all_goals rfl
  case p1 | div | tac | lcdc | lyc | dma | boot => simp [isolated, plain] at hr
  all_goals cases q <;> simp_all [ioRead, ioWrite, lyEqLyc]

/-- A write to an isolated register of the I/O page leaves every place outside the page. -/
theorem readTarget_ioWrite (s : State) {r : IoReg} (hr : isolated (.io r) = true) (v : Byte) {y : Target}
    (hy : ∀ q, y ≠ .io q) : readTarget (ioWrite s r v) y = readTarget s y := by
  cases r
  case p1 | div | tac | lcdc | lyc | dma | boot => simp [isolated, plain] at hr
  all_goals
    cases y
    case io q => exact absurd rfl (hy q)
    all_goals rfl

/-- A write to an isolated target changes what is read at no other target (R106). -/
theorem readTarget_writeTarget_ne (s : State) {x y : Target} (hx : isolated x = true) (v : Byte) (hne : y ≠ x) :
    readTarget (writeTarget s x v) y = readTarget s y := by
  cases x
  case cart n => simp [isolated, plain] at hx
  case xramOff | rtc | unusable => rfl
  case vram i =>
    cases y
    case vram j => exact Store.read_write_ne _ v (by simpa using hne)
    all_goals rfl
  case xram i =>
    cases y
    case xram j => exact Store.read_write_ne _ v (by simpa using hne)
    all_goals rfl
  case wram i =>
    cases y
    case wram j => exact Store.read_write_ne _ v (by simpa using hne)
    all_goals rfl
  case oam i =>
    cases y
    case oam j => exact Store.read_write_ne _ v (by simpa using hne)
    all_goals rfl
  case hram i =>
    cases y
    case hram j => exact Store.read_write_ne _ v (by simpa using hne)
    all_goals rfl
  case ie =>
    cases y
    case ie => exact absurd rfl hne
    all_goals rfl
  case io r =>
    by_cases hy : ∃ q, y = .io q
    · obtain ⟨q, rfl⟩ := hy
      exact ioRead_ioWrite_ne s hx v (by simpa using hne)
    · exact readTarget_ioWrite s hx v (by simpa using hy)

theorem memRead_memWrite_same {s : State} (hs : s.storesOk = true) {a b : Word} (ha : plain (locate s a) = true)
    (hb : locate s b = locate s a) (v : Byte) : memRead (memWrite s a v) b = v := by
  rw [memRead, locate_memWrite s v (isolated_ne_cart (isolated_of_plain ha)), hb]
  exact readTarget_writeTarget_same hs ha v

theorem memRead_memWrite_ne (s : State) {a b : Word} (ha : isolated (locate s a) = true) (hb : locate s b ≠ locate s a)
    (v : Byte) : memRead (memWrite s a v) b = memRead s b := by
  rw [memRead, locate_memWrite s v (isolated_ne_cart ha)]
  exact readTarget_writeTarget_ne s ha v hb

end Sys2Proof.Machine
end

section
/-! PROOFS. The memory map and the registers of the I/O page (10_state.md R50 to R72, 20_memory.md R110 to R115). -/
namespace Sys2Proof.Machine
open Certificates

/-- A place is its target: what the address is decoded to is what is read and written. -/
theorem reads_of_locate {s : State} {a : Word} {x : Target} (h : locate s a = x) (v : Byte) :
    reads s a v (readTarget s x) (writeTarget s x v) := by
  subst h; exact ⟨rfl, rfl⟩

/-- The register at offset `k` of the I/O page. -/
theorem locate_register (s : State) {k : Nat} (h : k < 0x80) :
    locate s (BitVec.ofNat 16 (0xFF00 + k)) = .io (ioReg k) := by
  have ha : (BitVec.ofNat 16 (0xFF00 + k)).toNat = 0xFF00 + k := by
    rw [BitVec.toNat_ofNat]; omega
  rw [locate_io s _ (by omega) (by omega), ha, Nat.add_sub_cancel_left]

/-- An access to the register at offset `k` of the I/O page. -/
theorem reads_register (s : State) {k : Nat} (h : k < 0x80) (v : Byte) :
    reads s (BitVec.ofNat 16 (0xFF00 + k)) v (ioRead s (ioReg k)) (ioWrite s (ioReg k) v) :=
  reads_of_locate (locate_register s h) v

theorem memoryMap (s : State) (a : Word) (v : Byte) : MemoryMap s a v := by
  have ie (h : a.toNat = 0xFFFF) : locate s a = .ie := by
    have ha : a = 0xFFFF := by bv_omega
    rw [ha]; rfl
  exact ⟨fun h h' => reads_of_locate (locate_vram s a h h') v, fun h h' => reads_of_locate (locate_wram s a h h') v,
    fun h h' => reads_of_locate (locate_echo s a h h') v, fun h h' => reads_of_locate (locate_oam s a h h') v,
    fun h h' => reads_of_locate (locate_unusable s a h h') v, fun h h' => reads_of_locate (locate_hram s a h h') v,
    fun h => reads_of_locate (ie h) v⟩

/-- The echo region is the work RAM 0x2000 below (R113). -/
theorem locate_echo_eq (s : State) {a : Word} (h : 0xE000 ≤ a.toNat) (h' : a.toNat ≤ 0xFDFF) :
    locate s a = locate s (a - 0x2000) := by
  have below : (a - 0x2000).toNat = a.toNat - 0x2000 := by bv_omega
  rw [locate_echo s a h h', locate_wram s (a - 0x2000) (by omega) (by omega), below, Nat.sub_sub]

/-! The writes of the I/O page that have an effect. -/
theorem memWrite_p1 (s : State) (v : Byte) : memWrite s 0xFF00 v = writeP1 v s :=
  (reads_register s (k := 0x00) (by decide) v).2
theorem memWrite_div (s : State) (v : Byte) : memWrite s 0xFF04 v = resetDiv s :=
  (reads_register s (k := 0x04) (by decide) v).2
theorem memWrite_tac (s : State) (v : Byte) : memWrite s 0xFF07 v = writeTac v s :=
  (reads_register s (k := 0x07) (by decide) v).2
theorem memWrite_lcdc (s : State) (v : Byte) : memWrite s 0xFF40 v = writeLcdc v s :=
  (reads_register s (k := 0x40) (by decide) v).2
theorem memWrite_dma (s : State) (v : Byte) : memWrite s 0xFF46 v = writeDma v s :=
  (reads_register s (k := 0x46) (by decide) v).2

theorem storageRegisters (s : State) (v : Byte) : StorageRegisters s v := by
  have reg (k : Nat) (h : k < 0x80) := reads_register s h v
  refine ⟨reg 0x01 (by decide), reg 0x02 (by decide), reg 0x05 (by decide), reg 0x06 (by decide), reg 0x42 (by decide),
    reg 0x43 (by decide), reg 0x45 (by decide), reg 0x47 (by decide), reg 0x48 (by decide), reg 0x49 (by decide),
    reg 0x4A (by decide), reg 0x4B (by decide), fun k hk => ?_⟩
  have inert := reg k (by omega)
  rwa [ioReg_inert hk] at inert

/-- The low nibble of P1 is the four input lines (R51). -/
theorem p1Read_line (j : Joypad) {k : Nat} (h : k < 4) : (p1Read j).getLsbD k = (p1Low j).getLsbD k :=
  BitVec.getLsbD_append.trans (if_pos h)

/-- The high nibble of P1 is two ones and the select bits (R51). -/
theorem p1Read_select (j : Joypad) {k : Nat} (h : ¬ k < 4) :
    (p1Read j).getLsbD k = (0b11#2 ++ BitVec.ofBool j.p15 ++ BitVec.ofBool j.p14).getLsbD (k - 4) :=
  BitVec.getLsbD_append.trans (if_neg h)

/-- The read value of P1 from its select bits and the button masks (R51). -/
theorem p1Read_eq (j : Joypad) :
    p1Read j = 0xC0 ||| (bitByte j.p15 <<< 5) ||| (bitByte j.p14 <<< 4)
      ||| (0x0F &&& ~~~(if j.p14 then 0 else j.dirs.setWidth 8) &&& ~~~(if j.p15 then 0 else j.acts.setWidth 8)) := by
  apply BitVec.eq_of_getLsbD_eq
  intro i hi
  by_cases low : i < 4
  · rw [p1Read_line j low]
    cases h : j.p15 <;> cases h' : j.p14 <;> interval_cases i <;> simp [p1Low, bitByte, h, h']
  · rw [p1Read_select j low]
    cases h : j.p15 <;> cases h' : j.p14 <;> interval_cases i <;> simp [bitByte]

/-- The read value of STAT from its enables, the LYC comparison and the mode (R61). -/
theorem ioRead_stat (s : State) :
    ioRead s .stat = 0x80 ||| (s.ppu.stat.setWidth 8 <<< 3) ||| (if s.ppu.ly = s.ppu.lyc.toNat then 0x04 else 0)
      ||| modeNumber s.ppu.mode := by
  have coincidence : (if s.ppu.ly = s.ppu.lyc.toNat then 0x04 else (0 : Byte)) = bitByte (lyEqLyc s.ppu) <<< 2 := by
    simp only [lyEqLyc, beq_iff_eq, bitByte]; split <;> rfl
  rw [coincidence, ioRead]
  generalize s.ppu.stat = enables
  generalize lyEqLyc s.ppu = eq
  cases s.ppu.mode <;> revert enables eq <;> decide

theorem ioRead_div (s : State) : ioRead s .div = byte (s.timer.div.toNat / 256) := by
  have hdiv := s.timer.div.isLt
  apply BitVec.eq_of_toNat_eq
  rw [ioRead, toNat_hiByte, byte, BitVec.toNat_ofNat]
  omega

theorem ioRead_tac (s : State) : ioRead s .tac = 0xF8 ||| s.timer.tac.setWidth 8 := by
  rw [ioRead]; generalize s.timer.tac = tac; revert tac; decide

theorem ioRead_irq (s : State) : ioRead s .irq = 0xE0 ||| s.intr.req.setWidth 8 := by
  rw [ioRead]; generalize s.intr.req = req; revert req; decide

theorem ioWrite_irq (s : State) (v : Byte) :
    ioWrite s .irq v = { s with intr := { s.intr with req := BitVec.ofNat 5 v.toNat } } := by
  rw [ioWrite, BitVec.ofNat_toNat]

theorem ioWrite_stat (s : State) (v : Byte) :
    ioWrite s .stat v = { s with ppu := { s.ppu with stat := BitVec.ofNat 4 (v.toNat / 8) } } := by
  rw [ioWrite, BitVec.extractLsb', Nat.shiftRight_eq_div_pow]

theorem joypadChange_joy (j : Joypad) (s : State) : (joypadChange j s).joy = j := by rw [joypadChange_eq]

theorem resetDiv_div (s : State) : (resetDiv s).timer.div = 0 := by rw [resetDiv, timerEdge_timer]

theorem writeTac_tac (v : Byte) (s : State) : (writeTac v s).timer.tac = BitVec.ofNat 3 v.toNat := by
  rw [writeTac, timerEdge_timer, BitVec.ofNat_toNat]

theorem writeLcdc_lcdc (v : Byte) (s : State) : (writeLcdc v s).ppu.lcdc = v := by
  simp only [writeLcdc]; split <;> rfl

theorem writeDma_ppu (v : Byte) (s : State) : (writeDma v s).ppu = { s.ppu with dma := v } := dmaCopy_ppu v 160 0 _

/-- With the LCD off the scanline state machine rests at line 0 in mode 0 (R473). -/
theorem ppuOk_off {p : Ppu} (h : ppuOk p = true) (hoff : lcdOn p = false) : p.ly = 0 ∧ p.mode = .hBlank := by
  simp only [ppuOk, hoff, Bool.false_eq_true, if_false, Bool.and_eq_true, beq_iff_eq] at h
  exact ⟨h.1.1, h.2⟩

theorem specialRegisters (s : State) (v : Byte) : SpecialRegisters s v := by
  have reg (k : Nat) (h : k < 0x80) : memRead s (BitVec.ofNat 16 (0xFF00 + k)) = ioRead s (ioReg k) :=
    (reads_register s h v).1
  have ly : memRead s 0xFF44 = byte s.ppu.ly := reg 0x44 (by decide)
  have stat : memRead s 0xFF41 = _ := (reg 0x41 (by decide)).trans (ioRead_stat s)
  refine ⟨⟨(reg 0x00 (by decide)).trans (p1Read_eq s.joy), ?_⟩, ⟨(reg 0x04 (by decide)).trans (ioRead_div s), ?_⟩,
    ⟨(reg 0x07 (by decide)).trans (ioRead_tac s), ?_⟩, ⟨(reg 0x0F (by decide)).trans (ioRead_irq s), ?_⟩,
    ⟨reg 0x40 (by decide), ?_⟩, ⟨stat, ?_⟩, ⟨ly, ?_⟩, fun hok hoff => ⟨?_, ?_⟩, ⟨reg 0x46 (by decide), ?_⟩,
    reads_register s (k := 0x50) (by decide) v⟩
  · rw [memWrite_p1, writeP1, joypadChange_joy]
  · rw [memWrite_div, resetDiv_div]
  · rw [memWrite_tac, writeTac_tac]
  · exact (reads_register s (k := 0x0F) (by decide) v).2.trans (ioWrite_irq s v)
  · rw [memWrite_lcdc, writeLcdc_lcdc]
  · exact (reads_register s (k := 0x41) (by decide) v).2.trans (ioWrite_stat s v)
  · exact (reads_register s (k := 0x44) (by decide) v).2
  · rw [ly, (ppuOk_off hok hoff).1]; rfl
  · rw [stat, (ppuOk_off hok hoff).2]
    generalize s.ppu.stat = enables
    split <;> revert enables <;> decide
  · rw [memWrite_dma, writeDma_ppu]
end Sys2Proof.Machine

namespace Sys2Proof.Certificates
open Sys2Proof.Machine

/-- Settles O37, from the rules of a write to a target and the decoding of every range and register. -/
theorem busStorage : Obligations.BusStorage := by
  intro s a b v
  refine ⟨fun hs ha hb => memRead_memWrite_same hs ha hb v, fun ha hb => memRead_memWrite_ne s ha hb v, memWrite_cpu ..,
    memWrite_status .., memWrite_stepCycles .., memWrite_totalCycles .., fun h h' => ?_, memoryMap s a v,
    specialRegisters s v, storageRegisters s v⟩
  rw [memRead, memWrite, locate_echo_eq s h h']
  exact ⟨rfl, rfl⟩

end Sys2Proof.Certificates
end

section
/-! PROOFS. What no write changes, and the windows of a cartridge without a controller (10_state.md R70, R77,
20_memory.md R111, R116, R122 to R124). -/
namespace Sys2Proof.Machine

/-- BOOT clears the latch of the boot ROM, and no other address reaches it (R70, R78). -/
theorem memWrite_bootRomEnabled (s : State) (a : Word) (v : Byte) :
    (memWrite s a v).bootRomEnabled = if a = 0xFF50 then false else s.bootRomEnabled := by
  by_cases ha : a = 0xFF50
  · have boot : memWrite s 0xFF50 v = { s with bootRomEnabled := false } :=
      (reads_register s (k := 0x50) (by decide) v).2
    rw [ha, boot, if_pos rfl]
  · rw [if_neg ha, memWrite]
    cases hx : locate s a
    case io r =>
      rw [writeTarget, ioWrite_bootRomEnabled, if_neg]
      rintro rfl
      exact ha (locate_boot hx)
    all_goals rfl

theorem memWrite_bank (s : State) {a : Word} (h : 0x8000 ≤ a.toNat) (v : Byte) : (memWrite s a v).bank = s.bank := by
  refine writeTarget_bank s v fun n hn => ?_
  have ha := locate_hasAddress s a
  rw [hn] at ha
  obtain ⟨-, below⟩ := ha
  omega

section
variable {s : State} (hb : s.bank = .none)
include hb

/-- Without a controller the ROM windows discard writes (R123). -/
theorem memWrite_rom_none {a : Word} (h : a.toNat ≤ 0x7FFF) (v : Byte) : memWrite s a v = s := by
  rw [memWrite, locate_cart s a h, writeTarget, hb, cartWrite, ← hb]

/-- Without a controller the ROM windows are banks 0 and 1, the image itself (R122). -/
theorem cartRead_none (h : 2 ≤ s.cfg.romBanks) (n : Nat) : cartRead s n = Store.read s.cfg.rom n := by
  rw [cartRead, hb, romByte, romByte, lowBank, highBank, Nat.zero_mod, Nat.mod_eq_of_lt h]
  split
  · rw [Nat.zero_mul, Nat.zero_add]
  · rw [show 1 * 0x4000 + (n - 0x4000) = n by omega]

theorem xramTarget_none (h : s.cfg.ramSize ≠ 0) (o : Nat) : xramTarget s o = .xram (o % s.cfg.ramSize) := by
  simp [xramTarget, hb, h, ramOff]

theorem xramTarget_none_off (h : s.cfg.ramSize = 0) (o : Nat) : xramTarget s o = .xramOff := by
  simp [xramTarget, hb, h]

end

/-- A read of the ROM windows goes to the cartridge, but where the boot ROM is overlaid (R116). -/
theorem memRead_cart (s : State) {a : Word} (h : a.toNat ≤ 0x7FFF)
    (hboot : s.bootRomEnabled = false ∨ 0x100 ≤ a.toNat) : memRead s a = cartRead s a.toNat := by
  rw [memRead, locate_cart s a h, readTarget, romRead, if_neg]
  rintro ⟨low, on⟩
  obtain hoff | high := hboot
  · rw [hoff] at on; exact Bool.noConfusion on
  · omega

theorem memRead_boot {s : State} (h : s.bootRomEnabled = true) {a : Word} (ha : a.toNat ≤ 0xFF) :
    memRead s a = Store.read s.cfg.bootRom a.toNat := by
  rw [memRead, locate_cart s a (by omega), readTarget, romRead, if_pos ⟨ha, h⟩]

end Sys2Proof.Machine

namespace Sys2Proof.Certificates
open Sys2Proof.Machine

/-- Settles O38, from the decoding of the cartridge windows and what a write to each target can change. -/
theorem writesNeverChangeRom : Obligations.WritesNeverChangeRom := by
  intro s a v
  refine ⟨memWrite_cfg .., fun ha => ?_, fun ha => ?_, fun h => memWrite_bank s h v,
    fun hb h => memWrite_rom_none hb h v, fun hb h hbanks hboot => ?_, fun h ha => memRead_boot h ha, fun hb hram h h' => ?_, fun hb hram h h' => ?_⟩
  · rw [memWrite_bootRomEnabled, if_pos ha]
  · rw [memWrite_bootRomEnabled, if_neg ha]
  · rw [memRead_cart s h hboot, cartRead_none hb hbanks]
  · exact reads_of_locate ((locate_window s a h h').trans (xramTarget_none hb hram _)) v
  · exact reads_of_locate ((locate_window s a h h').trans (xramTarget_none_off hb hram _)) v

end Sys2Proof.Certificates
end

section
/-! PROOFS. A push and a pop on plain storage (10_state.md R37, 42_loads_16bit_stack.md R234 to R236). -/
namespace Sys2Proof.Machine
open Certificates (plain isolated byte codePair)

theorem exec_push (s : State) {p : Pair} (h : p ≠ .sp) (b1 b2 : Byte) :
    exec (decodeAt (byte (0xC5 + 16 * codePair p)) b1 b2) s
      = .next (withCycles 16 (push16 (pair s p) (advance 1 s))) := by
  cases p
  case sp => exact absurd rfl h
  all_goals rfl

theorem exec_pop (s : State) {p : Pair} (h : p ≠ .sp) (b1 b2 : Byte) :
    exec (decodeAt (byte (0xC1 + 16 * codePair p)) b1 b2) s
      = .next (withCycles 12 (withPair (popped (advance 1 s)) p (popValue s))) := by
  cases p
  case sp => exact absurd rfl h
  all_goals rfl

theorem popValue_withCycles (n : Nat) (s : State) : popValue (withCycles n s) = popValue s := rfl

theorem setPair_sp (c : Cpu) {p : Pair} (h : p ≠ .sp) (v : Word) : (setPair c p v).sp = c.sp := by
  cases p
  case sp => exact absurd rfl h
  all_goals rfl

/-- Popping after a push gives the pushed word, where the two stack bytes are plain storage at two places. -/
theorem popValue_push16 {s : State} (hs : s.storesOk = true) (v : Word) (hi : plain (locate s (s.cpu.sp - 1)) = true)
    (lo : plain (locate s (s.cpu.sp - 2)) = true) (hne : locate s (s.cpu.sp - 1) ≠ locate s (s.cpu.sp - 2)) :
    popValue (push16 v s) = v := by
  have up : s.cpu.sp - 2 + 1 = s.cpu.sp - 1 := by bv_omega
  have same : ∀ b, locate (memWrite s (s.cpu.sp - 1) (hiByte v)) b = locate s b :=
    locate_memWrite s _ (isolated_ne_cart (isolated_of_plain hi))
  have hs' := memWrite_storesOk s (s.cpu.sp - 1) (hiByte v) hs
  rw [popValue, push16_eq, memRead_withSp, memRead_withSp, withSp_cpu]
  simp only [up]
  rw [memRead_memWrite_same hs' (by rw [same]; exact lo) rfl,
    memRead_memWrite_ne _ (by rw [same]; exact isolated_of_plain lo) (by rw [same, same]; exact hne),
    memRead_memWrite_same hs hi rfl, mk16_hiByte_loByte]

end Sys2Proof.Machine

namespace Sys2Proof.Certificates
open Sys2Proof.Machine

/-- Settles O13: the word popped is the word pushed, and SP goes down by 2 and up by 2. -/
theorem pushThenPopRestores : Obligations.PushThenPopRestores := by
  intro s t u p q b1 b2 b3 b4 hs hp hq hi lo hne ht hu
  rw [exec_push s hp, Host.Outcome.next.injEq] at ht
  rw [exec_pop t hq, Host.Outcome.next.injEq] at hu
  have value : popValue t = pair s p := by
    rw [← ht, popValue_withCycles]; exact popValue_push16 (s := advance 1 s) hs (pair s p) hi lo hne
  have sp : t.cpu.sp = s.cpu.sp - 2 := by
    rw [← ht, withCycles_cpu, push16_cpu, advance_cpu]
  rw [← hu, pair, withCycles_cpu, withPair_cpu, getPair_setPair, setPair_sp _ hq, popped_cpu, advance_cpu, value, sp]
  exact ⟨rfl, by bv_omega⟩

end Sys2Proof.Certificates
end

section
/-! PROOFS. The writes of the I/O page with an effect beyond their register: the OAM copy (10_state.md R65), the LCD
switch (60_exceptions.md R473), the joypad request (R485, R491) and the timer edge (R462). -/
namespace Sys2Proof.Machine
open Certificates (plain isolated)

/-! ### OAM DMA -/

/-- A byte of OAM is read at its own address only. -/
theorem memRead_withOam (s : State) {a : Word} {i : Nat} (v : Byte) (h : locate s a ≠ .oam i) :
    memRead { s with oam := Store.write s.oam i v } a = memRead s a :=
  readTarget_writeTarget_ne s (x := .oam i) rfl v h

/-- Byte `k` of a source page is byte `i` of OAM only where `k` is `i`. -/
theorem locate_page_ne_oam (s : State) (page : Byte) {i k : Nat} (hi : i < 160) (hk : k < 160) (hne : k ≠ i) :
    locate s (mk16 page (BitVec.ofNat 8 k)) ≠ .oam i := by
  intro h
  have ha := locate_hasAddress s (mk16 page (BitVec.ofNat 8 k))
  rw [h] at ha
  simp only [Target.hasAddress, toNat_mk16, BitVec.toNat_ofNat] at ha
  omega

/-- The copy reads each source byte as it was before the copy, since no source byte is overwritten before it is read. -/
theorem read_dmaCopy_oam (page : Byte) (n i : Nat) (s : State) (hs : Store.wf s.oam = true) (hi : i + n ≤ 160)
    (k : Nat) : Store.read (dmaCopy page n i s).oam k
      = if i ≤ k ∧ k < i + n then memRead s (mk16 page (BitVec.ofNat 8 k)) else Store.read s.oam k := by
  induction n generalizing i s with
  | zero => rw [if_neg (by omega)]; rfl
  | succ n ih =>
    rw [dmaCopy, ih (i + 1) _ (Store.wf_write hs _ _) (by omega)]
    by_cases later : i + 1 ≤ k ∧ k < i + 1 + n
    · have source := locate_page_ne_oam s page (i := i) (k := k) (by omega) (by omega) (by omega)
      rw [if_pos later, if_pos (by omega), memRead_withOam s _ source]
    · rw [if_neg later, Store.read_write hs]
      by_cases now : k = i
      · rw [if_pos now, if_pos (by omega), now]
      · rw [if_neg now, if_neg (by omega)]

/-- The page register is seen at its own address only. -/
theorem readTarget_withDma (s : State) (v : Byte) {x : Target} (h : x ≠ .io .dma) :
    readTarget { s with ppu := { s.ppu with dma := v } } x = readTarget s x := by
  cases x
  case io r =>
    cases r
    case dma => exact absurd rfl h
    all_goals rfl
  all_goals rfl

theorem memRead_withDma (s : State) (v : Byte) (a : Word) :
    memRead { s with ppu := { s.ppu with dma := v } } a = if a = 0xFF46 then v else memRead s a := by
  by_cases ha : a = 0xFF46
  · rw [if_pos ha, ha]
    exact (reads_register { s with ppu := { s.ppu with dma := v } } (k := 0x46) (by decide) v).1
  · rw [if_neg ha]
    exact readTarget_withDma s v fun h => ha (locate_dma h)

theorem mk16_ofNat (page : Byte) {i : Nat} (h : i < 256) :
    mk16 page (BitVec.ofNat 8 i) = BitVec.ofNat 16 (page.toNat * 256 + i) := by
  apply BitVec.eq_of_toNat_eq
  rw [toNat_mk16, BitVec.toNat_ofNat, BitVec.toNat_ofNat]
  omega

/-- The address of the page register is byte 0x46 of page 0xFF. -/
theorem pageAddress_eq_dma (page : Byte) {i : Nat} (h : i < 256) :
    BitVec.ofNat 16 (page.toNat * 256 + i) = (0xFF46 : Word) ↔ page = 0xFF ∧ i = 0x46 := by
  have hp := page.isLt
  simp only [← BitVec.toNat_inj, BitVec.toNat_ofNat]
  change _ = 0xFF46 ↔ page.toNat = 0xFF ∧ _
  omega

theorem read_writeDma_oam (s : State) (hs : Store.wf s.oam = true) (v : Byte) {i : Nat} (hi : i < 160) :
    Store.read (writeDma v s).oam i
      = if v = 0xFF ∧ i = 0x46 then v else memRead s (BitVec.ofNat 16 (v.toNat * 256 + i)) := by
  have source := read_dmaCopy_oam v 160 0 { s with ppu := { s.ppu with dma := v } } hs (by omega) i
  rw [if_pos (by omega), memRead_withDma, mk16_ofNat v (by omega)] at source
  simp only [pageAddress_eq_dma v (show i < 256 by omega)] at source
  exact source

theorem writeDma_eq (v : Byte) (s : State) :
    writeDma v s = { s with ppu := { s.ppu with dma := v }, oam := (writeDma v s).oam } := by
  rw [writeDma, dmaCopy_eq]

/-! ### The LCD switch -/

theorem lcdOn_eq (p : Ppu) : lcdOn p = decide (128 ≤ p.lcdc.toNat) := by
  rw [lcdOn]; generalize p.lcdc = v; revert v; decide

theorem getLsbD_seven (v : Byte) : v.getLsbD 7 = decide (128 ≤ v.toNat) := by revert v; decide

/-- A write to LCDC in the words of R473: off, on, or neither. -/
theorem writeLcdc_ppu (v : Byte) (s : State) :
    (writeLcdc v s).ppu =
      if 128 ≤ s.ppu.lcdc.toNat ∧ v.toNat < 128 then { s.ppu with lcdc := v, ly := 0, dot := 0, mode := .hBlank }
      else if s.ppu.lcdc.toNat < 128 ∧ 128 ≤ v.toNat then { s.ppu with lcdc := v, ly := 0, dot := 0, mode := .oamScan }
      else { s.ppu with lcdc := v } := by
  simp only [writeLcdc, lcdOn, getLsbD_seven]
  by_cases h : 128 ≤ s.ppu.lcdc.toNat <;> by_cases h' : 128 ≤ v.toNat <;> simp [h, h', Nat.not_lt.2, Nat.lt_of_not_le]

/-! ### The joypad -/

theorem joypadChange_req (j : Joypad) (s : State) :
    (joypadChange j s).intr.req
      = if p1Low s.joy &&& ~~~(p1Low j) = 0 then s.intr.req else s.intr.req ||| (1#5 <<< 4) := by
  simp only [joypadChange, request]; split <;> rfl

/-- Some line of P1 goes from 1 to 0. -/
theorem line_falls_iff (j j' : Joypad) :
    p1Low j &&& ~~~(p1Low j') ≠ 0
      ↔ ∃ k < 4, (p1Read j).getLsbD k = true ∧ (p1Read j').getLsbD k = false := by
  have bit {k : Nat} (hk : k < 4) : (p1Low j &&& ~~~(p1Low j')).getLsbD k = true
      ↔ (p1Read j).getLsbD k = true ∧ (p1Read j').getLsbD k = false := by
    simp [p1Read_line _ hk, hk]
  constructor
  · intro h
    by_contra none
    refine h (BitVec.eq_of_getLsbD_eq fun k hk => ?_)
    have stays : (p1Low j &&& ~~~(p1Low j')).getLsbD k = false := by
      rw [← Bool.not_eq_true, bit hk]
      exact fun falls => none ⟨k, hk, falls⟩
    exact stays.trans BitVec.getLsbD_zero.symm
  · rintro ⟨k, hk, falls⟩ h
    have set := (bit hk).2 falls
    simp [h] at set

/-- A change of the joypad requests the Joypad interrupt exactly when an input line falls (R485), and no other. -/
theorem joypadChange_request (j : Joypad) (s : State) :
    ((joypadChange j s).intr.req.getLsbD 4 = true ↔ s.intr.req.getLsbD 4 = true
      ∨ ∃ k < 4, (p1Read s.joy).getLsbD k = true ∧ (p1Read j).getLsbD k = false)
    ∧ ∀ k < 4, (joypadChange j s).intr.req.getLsbD k = s.intr.req.getLsbD k := by
  rw [joypadChange_req, ← line_falls_iff]
  split
  · next h => simp [h]
  · next h =>
    refine ⟨iff_of_true (by simp) (.inr h), fun k hk => ?_⟩
    rw [BitVec.getLsbD_or, BitVec.getLsbD_shiftLeft]
    simp [hk]

/-! ### The timer edge -/

/-- Clearing the divider takes the timer input to 0 (R461). -/
theorem timerInput_div_zero (t : Timer) : timerInput { t with div := 0 } = false := by
  simp [timerInput]

/-- A write to DIV under the edge rule (R54, R462). -/
theorem resetDiv_timer (s : State) :
    (resetDiv s).timer = { s.timer with
      div := 0
      tima := if timerInput s.timer then if s.timer.tima = 0xFF then s.timer.tma else s.timer.tima + 1
        else s.timer.tima } := by
  rw [resetDiv, timerEdge_timer, timerInput_div_zero]
  simp

theorem resetDiv_req (s : State) :
    (resetDiv s).intr.req
      = if timerInput s.timer ∧ s.timer.tima = 0xFF then s.intr.req ||| 0b00100 else s.intr.req := by
  rw [resetDiv, timerEdge_intr, timerInput_div_zero, Bool.not_false, Bool.and_true]
  split <;> rfl

/-- The timer input depends on the divider and TAC only. -/
theorem timerInput_writeTac (v : Byte) (s : State) :
    timerInput (writeTac v s).timer = timerInput { s.timer with tac := v.setWidth 3 } := by
  rw [writeTac, timerEdge_timer]; rfl

/-- A write to TAC under the edge rule (R57, R462). -/
theorem writeTac_timer (v : Byte) (s : State) :
    (writeTac v s).timer = { s.timer with
      tac := BitVec.ofNat 3 v.toNat
      tima := if timerInput s.timer ∧ ¬ timerInput (writeTac v s).timer then
          if s.timer.tima = 0xFF then s.timer.tma else s.timer.tima + 1
        else s.timer.tima } := by
  rw [timerInput_writeTac, writeTac, timerEdge_timer, BitVec.ofNat_toNat]
  simp

theorem writeTac_req (v : Byte) (s : State) :
    (writeTac v s).intr.req
      = if timerInput s.timer ∧ ¬ timerInput (writeTac v s).timer ∧ s.timer.tima = 0xFF then s.intr.req ||| 0b00100
        else s.intr.req := by
  rw [timerInput_writeTac, writeTac, timerEdge_intr]
  simp only [Bool.and_eq_true, Bool.not_eq_true', Bool.not_eq_true, and_assoc]
  split <;> rfl

end Sys2Proof.Machine

namespace Sys2Proof.Certificates
open Sys2Proof.Machine

/-- Settles O41, by induction on the bytes copied. -/
theorem oamDmaCopies : Obligations.OamDmaCopies := by
  intro s t v hs ht
  obtain ⟨-, -, ⟨hoam, -⟩, -⟩ := (storesOk_iff s).1 hs
  rw [memWrite_dma] at ht
  subst ht
  have ppu := writeDma_ppu v s
  refine ⟨ppu, ?_, fun i hi => read_writeDma_oam s hoam v hi⟩
  rw [ppu]
  exact writeDma_eq v s

/-- Settles O42, by the three cases of R473. -/
theorem lcdSwitch : Obligations.LcdSwitch := by
  intro s v
  rw [memWrite_lcdc]
  refine ⟨by rw [writeLcdc_eq], writeLcdc_lcdc v s, writeLcdc_fb v s, writeLcdc_frameReady v s, fun h h' => ?_,
    fun h h' => ?_, fun h => ?_⟩
  · rw [writeLcdc_ppu, if_pos ⟨h, h'⟩]; exact ⟨rfl, rfl, rfl⟩
  · rw [writeLcdc_ppu, if_neg (by omega), if_pos ⟨h, h'⟩]; exact ⟨rfl, rfl, rfl⟩
  · rw [writeLcdc_ppu, if_neg (by omega), if_neg (by omega)]; exact ⟨rfl, rfl, rfl⟩

/-- Settles O43, from the one rule of a joypad change. -/
theorem joypadRequestOnFallingLine : Obligations.JoypadRequestOnFallingLine := by
  intro s dirs acts v
  rw [memWrite_p1]
  have host := joypadChange_joy { s.joy with dirs := dirs, acts := acts } s
  have cpu := joypadChange_joy { s.joy with p15 := v.getLsbD 5, p14 := v.getLsbD 4 } s
  refine ⟨?_, ?_⟩
  · simp only [hostSetButtons, host]
    exact ⟨trivial, trivial, trivial, trivial, joypadChange_request _ s⟩
  · simp only [writeP1, cpu]
    exact ⟨trivial, joypadChange_request _ s⟩

/-- Settles O52, by the edge rule. -/
theorem timerEdgeOnRegisterWrite : Obligations.TimerEdgeOnRegisterWrite := by
  intro s v
  rw [memWrite_div, memWrite_tac]
  have div := resetDiv_timer s
  have tac := writeTac_timer v s
  exact ⟨⟨by rw [div], by rw [div], by rw [div], by rw [div], resetDiv_req s⟩,
    by rw [tac], by rw [tac], by rw [tac], congrArg Timer.tima tac, writeTac_req v s⟩

end Sys2Proof.Certificates
end

section
/-! PROOFS. One period of the timer (10_state.md R57, 60_exceptions.md R460, R461): the input falls at one phase of the
divider, so a period is quiet cycles, one increment, and quiet cycles again. -/
namespace Sys2Proof.Machine
open Certificates (timerPeriod)

/-- The timer after `n` cycles that only count the divider. -/
def Timer.after (t : Timer) (n : Nat) : Timer := { t with div := t.div + BitVec.ofNat 16 n }

@[simp] theorem Timer.after_tima (t : Timer) (n : Nat) : (t.after n).tima = t.tima := rfl
@[simp] theorem Timer.after_tma (t : Timer) (n : Nat) : (t.after n).tma = t.tma := rfl
@[simp] theorem Timer.after_tac (t : Timer) (n : Nat) : (t.after n).tac = t.tac := rfl
@[simp] theorem Timer.after_zero (t : Timer) : t.after 0 = t := by simp [Timer.after]

@[simp] theorem Timer.after_after (t : Timer) (m n : Nat) : (t.after m).after n = t.after (m + n) := by
  simp [Timer.after, BitVec.ofNat_add, BitVec.add_assoc]

/-- The next master cycle takes the timer input from 1 to 0 (R461). -/
def inputFalls (t : Timer) : Bool := timerInput t && !timerInput (t.after 1)

/-- The place of the divider in the period of the selected clock. -/
def timerPhase (t : Timer) : Nat := t.div.toNat % timerPeriod (t.tac.setWidth 2)

theorem timerPhase_lt (t : Timer) : timerPhase t < timerPeriod (t.tac.setWidth 2) := by
  refine Nat.mod_lt _ ?_
  simp only [timerPeriod]; split_ifs <;> omega

/-- The selected bit of the divider falls where it and all below it are 1. -/
theorem dividerBit_falls (d : BitVec 16) (sel : BitVec 2) :
    d.getLsbD (selBit sel) = true ∧ (d + 1).getLsbD (selBit sel) = false
      ↔ d.toNat % timerPeriod sel + 1 = timerPeriod sel := by
  have hd := d.isLt
  have next : (d + 1).toNat = (d.toNat + 1) % 65536 := BitVec.toNat_add d 1
  simp only [BitVec.getLsbD, next, selBit, timerPeriod, Nat.testBit_eq_decide_div_mod_eq, decide_eq_true_eq,
    decide_eq_false_iff_not]
  split_ifs <;> omega

/-- With the timer enabled the input falls at the last phase of the period (R461). -/
theorem inputFalls_iff (t : Timer) :
    inputFalls t = true ↔ t.tac.getLsbD 2 = true ∧ timerPhase t + 1 = timerPeriod (t.tac.setWidth 2) := by
  rw [timerPhase, ← dividerBit_falls, inputFalls, timerInput, timerInput, Timer.after_tac]
  cases t.tac.getLsbD 2 <;> simp [Timer.after]

/-- The phase counts the cycles modulo the period. -/
theorem timerPhase_after (t : Timer) (n : Nat) :
    timerPhase (t.after n) = (timerPhase t + n) % timerPeriod (t.tac.setWidth 2) := by
  have hd : timerPeriod (t.tac.setWidth 2) ∣ 2 ^ 16 := by
    simp only [timerPeriod]; split_ifs <;> decide
  have div : (t.after n).div.toNat = (t.div.toNat + n) % 2 ^ 16 := by simp [Timer.after]
  rw [timerPhase, timerPhase, div, Timer.after_tac, Nat.mod_mod_of_dvd _ hd, Nat.mod_add_mod]

/-! ### Cycles -/

theorem timerAdvance_zero (s : State) : timerAdvance 0 s = s := rfl
theorem timerAdvance_one (s : State) : timerAdvance 1 s = timerTick s := rfl
theorem timerAdvance_succ (n : Nat) (s : State) : timerAdvance (n + 1) s = timerAdvance n (timerTick s) := rfl
theorem timerAdvance_add (m n : Nat) (s : State) : timerAdvance (m + n) s = timerAdvance n (timerAdvance m s) :=
  iter_add timerTick m n s

theorem timerAdvance_div (n : Nat) (s : State) : (timerAdvance n s).timer.div = s.timer.div + BitVec.ofNat 16 n := by
  induction n generalizing s with
  | zero => simp [timerAdvance_zero]
  | succ n ih => rw [timerAdvance_succ, ih, timerTick_div, Nat.add_comm n, BitVec.ofNat_add, BitVec.add_assoc]; rfl

/-- A cycle in which the input does not fall only counts the divider. -/
theorem timerTick_quiet {s : State} (h : inputFalls s.timer = false) :
    timerTick s = { s with timer := s.timer.after 1 } := by
  have quiet : (timerInput s.timer && !timerInput { s.timer with div := s.timer.div + 1 }) = false := h
  simp only [timerTick, timerEdge, quiet, Bool.false_eq_true, if_false]
  rfl

/-- The cycle in which the input falls increments TIMA, with the reload and the request on overflow. -/
theorem timerTick_falls {s : State} (h : inputFalls s.timer = true) :
    (timerTick s).timer = { s.timer.after 1 with
      tima := if s.timer.tima = 0xFF then s.timer.tma else s.timer.tima + 1 }
    ∧ (timerTick s).intr = if s.timer.tima = 0xFF then { s.intr with req := s.intr.req ||| 4#5 } else s.intr := by
  have falls : (timerInput s.timer && !timerInput { s.timer with div := s.timer.div + 1 }) = true := h
  rw [timerTick, timerEdge_timer, timerEdge_intr, falls]
  exact ⟨rfl, if_congr (and_iff_right rfl) rfl rfl⟩

/-- Cycles in none of which the input falls only count the divider. -/
theorem timerAdvance_quiet (n : Nat) (s : State) (h : ∀ k < n, inputFalls (s.timer.after k) = false) :
    timerAdvance n s = { s with timer := s.timer.after n } := by
  induction n generalizing s with
  | zero => rw [timerAdvance_zero, Timer.after_zero]
  | succ n ih =>
    have first : timerTick s = _ := timerTick_quiet (by simpa using h 0 (by omega))
    rw [timerAdvance_succ, first, ih _ fun k hk => ?_]
    · rw [Timer.after_after, Nat.add_comm 1]
    · rw [Timer.after_after, Nat.add_comm 1]; exact h (k + 1) (by omega)

/-- A disabled timer only counts the divider. -/
theorem timerAdvance_disabled {s : State} (h : s.timer.tac.getLsbD 2 = false) (n : Nat) :
    timerAdvance n s = { s with timer := s.timer.after n } := by
  refine timerAdvance_quiet n s fun k _ => ?_
  rw [inputFalls, timerInput, Timer.after_tac, h, Bool.false_and, Bool.false_and]

/-- The input does not fall before the last phase of the period. -/
theorem timerAdvance_before_fall {n : Nat} {s : State}
    (h : timerPhase s.timer + n < timerPeriod (s.timer.tac.setWidth 2)) :
    timerAdvance n s = { s with timer := s.timer.after n } := by
  refine timerAdvance_quiet n s fun k hk => ?_
  rw [← Bool.not_eq_true, inputFalls_iff, timerPhase_after, Timer.after_tac, Nat.mod_eq_of_lt (by omega)]
  omega

/-- A whole period with the timer enabled increments TIMA once, whatever the phase `p` it begins at: it waits for the
last phase, the input falls, and the `p` cycles that are left are quiet. -/
theorem timerAdvance_period {s : State} (enabled : s.timer.tac.getLsbD 2 = true) :
    (timerAdvance (timerPeriod (s.timer.tac.setWidth 2)) s).timer.tima
      = (if s.timer.tima = 0xFF then s.timer.tma else s.timer.tima + 1)
    ∧ (timerAdvance (timerPeriod (s.timer.tac.setWidth 2)) s).intr
      = if s.timer.tima = 0xFF then { s.intr with req := s.intr.req ||| 4#5 } else s.intr := by
  have hlt := timerPhase_lt s.timer
  obtain ⟨wait, hwait⟩ : ∃ wait, wait + 1 + timerPhase s.timer = timerPeriod (s.timer.tac.setWidth 2) :=
    ⟨timerPeriod (s.timer.tac.setWidth 2) - 1 - timerPhase s.timer, by omega⟩
  have waited : timerAdvance wait s = _ := timerAdvance_before_fall (by omega)
  have falls : inputFalls (timerAdvance wait s).timer = true := by
    rw [waited, inputFalls_iff, timerPhase_after, Timer.after_tac, Nat.mod_eq_of_lt (by omega)]
    exact ⟨enabled, by omega⟩
  obtain ⟨timer, intr⟩ := timerTick_falls falls
  have phase : timerPhase (timerTick (timerAdvance wait s)).timer = 0 := by
    have counted := timerPhase_after s.timer (wait + 1)
    rw [show timerPhase s.timer + (wait + 1) = timerPeriod (s.timer.tac.setWidth 2) by omega, Nat.mod_self] at counted
    rw [timer, waited, Timer.after_after]
    exact counted
  have tac : (timerTick (timerAdvance wait s)).timer.tac = s.timer.tac := by rw [timerTick_tac, waited]; rfl
  rw [← hwait, timerAdvance_add, timerAdvance_add, timerAdvance_one,
    timerAdvance_before_fall (by rw [phase, tac]; omega), Timer.after_tima, timer, intr, waited]
  exact ⟨rfl, rfl⟩

end Sys2Proof.Machine

namespace Sys2Proof.Certificates
open Sys2Proof.Machine

/-- Settles O51: the divider always counts, and over one period its selected bit falls once. -/
theorem timerCountsOncePerPeriod : Obligations.TimerCountsOncePerPeriod := by
  intro s
  refine ⟨fun h => ?_, fun n h => ?_, fun n => timerAdvance_div n s⟩
  · obtain ⟨tima, intr⟩ := timerAdvance_period h
    refine ⟨tima, fun overflow => ?_, fun none => ?_⟩
    · rw [intr, if_pos overflow]; simp
    · rw [intr, if_neg none]
  · rw [timerAdvance_disabled h]
    exact ⟨rfl, rfl⟩

end Sys2Proof.Certificates
end

section
/-! PROOFS. The background rasterizer (60_exceptions.md R480, R481) and the dot that runs it (R471). -/
namespace Sys2Proof.Machine
open Certificates

/-! ### The shade of a pixel -/

/-- VRAM as the bus reads it (R146). -/
theorem memRead_vram (s : State) {i : Nat} (h : i < 0x2000) :
    memRead s (BitVec.ofNat 16 (0x8000 + i)) = Store.read s.vram i := by
  have ha : (BitVec.ofNat 16 (0x8000 + i)).toNat = 0x8000 + i := by
    rw [BitVec.toNat_ofNat]; omega
  rw [memRead, locate_vram s _ (by omega) (by omega), ha, Nat.add_sub_cancel_left]
  rfl

theorem getLsbD_eq_bit (v : Byte) (b : Nat) : bitNat (v.getLsbD b) = v.toNat / 2 ^ b % 2 := by
  rw [BitVec.getLsbD, Nat.testBit_eq_decide_div_mod_eq, bitNat]
  split <;> simp_all

/-- The BGP lookup of R66 as arithmetic. -/
theorem shade_eq (bgp : Byte) (c : Nat) : shade bgp c = BitVec.ofNat 2 (bgp.toNat / 2 ^ (2 * c) % 4) := by
  apply BitVec.eq_of_toNat_eq
  simp [shade, Nat.shiftRight_eq_div_pow]

/-- The map byte of a plane position, by its bus address. -/
theorem memRead_map (s : State) {bx py : Nat} (hx : bx < 256) (hy : py < 256) :
    memRead s (BitVec.ofNat 16 ((if s.ppu.lcdc.getLsbD 3 then 0x9C00 else 0x9800) + py / 8 * 32 + bx / 8))
      = Store.read s.vram (mapOffset s.ppu bx py) := by
  have offset : mapOffset s.ppu bx py < 0x2000 := by
    rw [mapOffset]; split <;> omega
  rw [← memRead_vram s offset, mapOffset]
  congr 2
  split <;> omega

/-- A byte of a tile row, by its bus address, unsigned from 0x8000 or signed around 0x9000. -/
theorem memRead_tile (s : State) (idx : Byte) {k : Nat} (hk : k < 16) :
    memRead s (BitVec.ofInt 16
        ((if s.ppu.lcdc.getLsbD 4 then 0x8000 + (idx.toNat : Int) * 16 else 0x9000 + idx.toInt * 16) + (k : Int)))
      = Store.read s.vram (tileOffset s.ppu idx + k) := by
  have lo := idx.isLt
  have signed : -128 ≤ idx.toInt ∧ idx.toInt < 128 := ⟨BitVec.le_toInt idx, BitVec.toInt_lt⟩
  have offset : tileOffset s.ppu idx + k < 0x2000 := by
    rw [tileOffset]; split <;> omega
  have address : (if s.ppu.lcdc.getLsbD 4 then 0x8000 + (idx.toNat : Int) * 16 else 0x9000 + idx.toInt * 16) + (k : Int)
      = ((0x8000 + (tileOffset s.ppu idx + k) : Nat) : Int) := by
    rw [tileOffset]; split <;> omega
  rw [address, BitVec.ofInt_natCast, memRead_vram s offset]

/-! ### The row of a scanline -/

/-- The pixels that the rasterizer writes: columns `x` to `x + n - 1` of row `y`. -/
theorem read_renderColumns (p : Ppu) (vram : Memory) (y n x : Nat) (fb : Store 2) (hfb : Store.wf fb = true) (k : Nat) :
    Store.read (renderColumns p vram y n x fb) k
      = if 160 * y + x ≤ k ∧ k < 160 * y + x + n then bgShade p vram (k - 160 * y) y else Store.read fb k := by
  induction n generalizing x fb with
  | zero => rw [if_neg (by omega)]; rfl
  | succ n ih =>
    rw [renderColumns, ih (x + 1) _ (Store.wf_write hfb _ _), Store.read_write hfb]
    by_cases now : k = 160 * y + x
    · rw [if_neg (by omega), if_pos now, if_pos (by omega), now, Nat.add_sub_cancel_left]
    · rw [if_neg now]
      exact if_congr (by omega) rfl rfl

/-- A pixel of the frame after a line is rendered. -/
theorem hostPixel_renderLine (s : State) (hfb : Store.wf s.ppu.fb = true) (x y y' : Nat) (hx : x < 160) :
    hostPixel (renderLine y s) x y' = if y' = y then bgShade s.ppu s.vram x y else hostPixel s x y' := by
  rw [hostPixel, renderLine, read_renderColumns _ _ _ _ _ _ hfb]
  by_cases row : y' = y
  · rw [if_pos row, if_pos (by omega), row, Nat.add_sub_cancel_left]
  · rw [if_neg row, if_neg (by omega)]; rfl

/-- The rasterizer looks at LCDC, the scroll registers and BGP only. -/
theorem renderColumns_congr (p : Ppu) (dot : Nat) (mode : PpuMode) (vram : Memory) (y n x : Nat) (fb : Store 2) :
    renderColumns { p with dot := dot, mode := mode } vram y n x fb = renderColumns p vram y n x fb := by
  induction n generalizing x fb with
  | zero => rfl
  | succ n ih => rw [renderColumns, renderColumns, ih]; rfl

/-- The dot that enters pixel transfer renders its line (R471). -/
theorem ppuTick_renders {s : State} (on : lcdOn s.ppu = true) (visible : s.ppu.ly < 144) (hdot : s.ppu.dot = 79) :
    ppuTick s = { s with ppu := { (renderLine s.ppu.ly s).ppu with dot := 80, mode := .pixelTransfer } } := by
  have row := renderColumns_congr s.ppu 80 .pixelTransfer s.vram s.ppu.ly 160 0 s.ppu.fb
  simp only [ppuTick, on, if_true, hdot, visible, and_self, enterMode, modeRequests, Bool.false_eq_true, if_false,
    renderLine]
  rw [row]
end Sys2Proof.Machine

namespace Sys2Proof.Certificates
open Sys2Proof.Machine

/-- Settles O55: R481's arithmetic on the bus is the shade of the pixel, and the rows are disjoint. -/
theorem renderWritesOneRow : Obligations.RenderWritesOneRow := by
  intro s x y y' hs hx
  obtain ⟨-, -, -, -, -, -, hfb, -⟩ := (storesOk_iff s).1 hs
  refine ⟨?_, fun hy => ?_, ⟨_, rfl⟩, ppuTick_renders⟩
  · intro p bx py map idx tile row lo hi b c
    have hidx : idx = Store.read s.vram (mapOffset p bx py) := memRead_map s (by omega) (by omega)
    have hlo : lo = Store.read s.vram (tileOffset p idx + py % 8 * 2) := memRead_tile s idx (by omega)
    have hhi : hi = Store.read s.vram (tileOffset p idx + (py % 8 * 2 + 1)) := by
      rw [← memRead_tile s idx (by omega), Int.natCast_add, ← Int.add_assoc]; rfl
    have pixel : bgShade p s.vram x y = if p.lcdc.getLsbD 0 then shade p.bgp c else 0 := by
      simp only [bgShade, getLsbD_eq_bit, c, hlo, hhi, hidx]
      rfl
    rw [hostPixel_renderLine s hfb x y y hx, if_pos rfl, pixel, shade_eq]
  · rw [hostPixel_renderLine s hfb x y y' hx, if_neg hy]
end Sys2Proof.Certificates
end

section
/-! PROOFS. What each shape costs and what it leaves in F, said once, and the rows of the opcode table (30_encoding.md
R187, 10_state.md R34). -/
namespace Sys2Proof.Machine

/-- The condition under which a shape takes its branch; the others are always taken. -/
def Shape.condition : Shape → Flags → Bool
  | .jump cond _ _ _ _ | .call cond _ _ _ _ | .ret cond _ _ => cond
  | _ => fun _ => true

/-- The cycles of a shape whose branch is taken. -/
def Shape.taken : Shape → Nat
  | .ldReg _ _ | .acc _ | .nop | .di | .ei | .halt | .stop _ => 4
  | .ldImm _ _ | .ldFromHL _ | .ldToHL _ | .stAAtHLStep _ | .ldAFromHLStep _ | .ldSpHl | .accImm _ _ | .addHL _
  | .stepPair _ _ => 8
  | .stImmAtHL _ | .ldPairImm _ _ | .ldHlSp _ | .pop _ => 12
  | .addSp _ | .push _ | .reti => 16
  | .stSp _ => 20
  | .ldAFrom _ n _ | .stAAt _ n _ | .jump _ _ n _ _ | .call _ _ n _ _ | .ret _ n _ => n
  | .accReg _ r => accCycles r
  | .stepReg _ r => stepCyclesOf r
  | .cbRot _ r | .cbWrite _ r => rotCycles r
  | .cbBit _ r => if r = .atHL then 12 else 8
  | .undefined _ => 0

/-- The cycles of a shape whose branch is not taken. -/
def Shape.notTaken : Shape → Nat
  | .jump _ _ _ n _ | .call _ _ _ n _ | .ret _ _ n => n
  | i => i.taken

/-- The flags after a shape. -/
def Shape.flags (i : Shape) (s : State) : Flags :=
  match i with
  | .ldHlSp e | .addSp e => (Machine.addSp s.cpu.sp e).2
  | .ldPairImm p nn => (setPair s.cpu p nn).f
  | .stepPair k p => (setPair s.cpu p (pair s p + k)).f
  | .pop p => (setPair s.cpu p (popValue s)).f
  | .accReg op r => (op s.cpu.f s.cpu.a (rd8 s r)).2
  | .accImm op n => (op s.cpu.f s.cpu.a n).2
  | .stepReg op r | .cbRot op r => (op s.cpu.f (rd8 s r)).2
  | .acc f => (f s).2
  | .addHL p => (add16 s.cpu.f (pair s .hl) (pair s p)).2
  | .cbBit b r => bitFlags s.cpu.f b (rd8 s r)
  | _ => s.cpu.f

theorem wr8_f (t : State) (r : R8) (v : Byte) : (wr8 t r v).cpu.f = t.cpu.f := by
  cases r
  case atHL => simp only [wr8, memWrite_cpu]
  all_goals rfl

theorem haltOp_f (t : State) : (haltOp t).cpu.f = t.cpu.f := by
  simp only [haltOp]; split_ifs <;> rfl

/-- Every ordinary shape spends its cycles and leaves its flags. -/
theorem Shape.run_cycles_flags (i : Shape) (s : State) (h : i.special = false) :
    ∃ t, i.run s = .next t ∧ t.stepCycles = (if i.condition s.cpu.f then i.taken else i.notTaken)
      ∧ t.cpu.f = i.flags s := by
  cases i
  case stop | undefined => exact Bool.noConfusion h
  case ldReg | ldImm | ldFromHL | ldToHL | stImmAtHL | cbWrite => exact ⟨_, rfl, rfl, wr8_f ..⟩
  case stAAt | stAAtHLStep | stSp | push => exact ⟨_, rfl, rfl, by simp [Shape.flags, setPair, push16_cpu]⟩
  case ldAFrom | ldAFromHLStep | ldSpHl | ldHlSp | addSp | accImm | acc | addHL | reti | nop | di | ei =>
    exact ⟨_, rfl, rfl, rfl⟩
  case ldPairImm p _ | stepPair _ p | pop p => exact ⟨_, rfl, rfl, by cases p <;> rfl⟩
  case accReg | stepReg | cbRot | cbBit => exact ⟨_, rfl, rfl, by simp [Shape.flags, rd8_advance]⟩
  case jump cond _ _ _ _ | ret cond _ _ =>
    cases hc : cond s.cpu.f <;> simp only [run, condition, hc, if_true, Bool.false_eq_true, if_false] <;>
      exact ⟨_, rfl, rfl, rfl⟩
  case call cond _ _ _ _ =>
    cases hc : cond s.cpu.f <;> simp only [run, condition, hc, if_true, Bool.false_eq_true, if_false] <;>
      exact ⟨_, rfl, rfl, by simp [flags, callTo, push16_cpu]⟩
  case halt => exact ⟨_, rfl, rfl, by rw [withCycles_cpu, haltOp_f]; rfl⟩

end Sys2Proof.Machine

namespace Sys2Proof.Certificates
open Sys2Proof.Machine

/-- The flag that a column allows: the one before, the constant, or the one after, whatever it is. -/
def FlagCol.result : FlagCol → Bool → Bool → Bool
  | .keep, before, _ => before
  | .const b, _, _ => b
  | .computed, _, after => after

theorem FlagCol.allows_iff (col : FlagCol) (before after : Bool) :
    col.allows before after ↔ after = col.result before after := by
  cases col <;> simp [allows, result]

/-- The flags that a row allows. -/
def TableRow.flags (row : TableRow) (before after : Flags) : Flags :=
  ⟨row.z.result before.z after.z, row.n.result before.n after.n, row.h.result before.h after.h,
    row.c.result before.c after.c⟩

/-- An ordinary shape that is as its row in the table says: both cycle counts and the four flag columns. -/
def Fits (i : Shape) (row : TableRow) : Prop :=
  i.special = false ∧ i.taken = row.taken ∧ i.notTaken = row.notTaken ∧ ∀ s, i.flags s = row.flags s.cpu.f (i.flags s)

/-- The first bytes that have no row of R187: STOP, the CB lead byte and the undefined bytes. -/
def rowless : List Nat := [0x10, 0xCB, 0xD3, 0xDB, 0xDD, 0xE3, 0xE4, 0xEB, 0xEC, 0xED, 0xF4, 0xFC, 0xFD]

theorem toNat_not_rowless {b : Byte} (hcb : b ≠ 0xCB) (hstop : b ≠ 0x10) (hundef : undefinedBytes.contains b = false) :
    b.toNat ∉ rowless := by
  revert b; decide +kernel

theorem exists_byte (b : Byte) : ∃ n < 256, b = byte n := ⟨b.toNat, b.isLt, by simp [byte]⟩

theorem toNat_byte {n : Nat} (h : n < 256) : (byte n).toNat = n := by rw [byte, BitVec.toNat_ofNat]; omega

/-- DAA keeps N and clears H (R263). -/
theorem daa8_flags (f : Flags) (a : Byte) : (daa8 f a).2 = ⟨(daa8 f a).2.z, f.n, false, (daa8 f a).2.c⟩ := by
  cases hn : f.n <;> simp [daa8, hn]

theorem daa_fits : Fits (shapeOf .daa) (tableRow 0x27) := ⟨rfl, rfl, rfl, fun s => daa8_flags s.cpu.f s.cpu.a⟩

/-- Every byte of the map decodes to a shape that fits its row: DAA by its rule, the others by computing both. -/
theorem decodeAt_fits {n : Nat} (hn : n < 256) (b1 b2 : Byte) (row : n ∉ rowless) :
    Fits (shapeOf (decodeAt (byte n) b1 b2)) (tableRow n) := by
  by_cases daa : n = 0x27
  · subst daa; exact daa_fits
  · interval_cases n
    all_goals try contradiction
    all_goals exact ⟨rfl, rfl, rfl, fun _ => rfl⟩

/-- The bytes of the conditional jumps, calls and returns (R177). -/
def conditionalBytes : List Nat :=
  [0x20, 0x28, 0x30, 0x38, 0xC0, 0xC2, 0xC4, 0xC8, 0xCA, 0xCC, 0xD0, 0xD2, 0xD4, 0xD8, 0xDA, 0xDC]

/-- The condition of the row is the condition of the shape, where the row has two cycle counts. -/
theorem decodeAt_condition {n : Nat} (hn : n < 256) (b1 b2 : Byte) (row : n ∉ rowless) :
    (tableRow n).taken = (tableRow n).notTaken ∨ (shapeOf (decodeAt (byte n) b1 b2)).condition = (condAt n).holds := by
  by_cases h : n ∈ conditionalBytes
  · right
    simp only [conditionalBytes, List.mem_cons, List.not_mem_nil, or_false] at h
    obtain rfl | rfl | rfl | rfl | rfl | rfl | rfl | rfl | rfl | rfl | rfl | rfl | rfl | rfl | rfl | rfl := h <;> rfl
  · left
    revert n; decide +kernel

theorem condition_iff (k : Cond) (f : Flags) : condition k f ↔ k.holds f = true := by
  cases k <;> simp [condition, Cond.holds]

/-- Settles O33: each shape spends its cycles and leaves its flags, and fits its row of the table. -/
theorem cyclesAndFlagColumns : Obligations.CyclesAndFlagColumns := by
  intro s b0 b1 b2 hcb hstop hundef
  have row := toNat_not_rowless hcb hstop hundef
  obtain ⟨n, hn, rfl⟩ := exists_byte b0
  rw [toNat_byte hn] at row ⊢
  obtain ⟨ordinary, taken, notTaken, columns⟩ := decodeAt_fits hn b1 b2 row
  obtain ⟨t, ht, cycles, flags⟩ := Shape.run_cycles_flags _ s ordinary
  have hf := columns s
  rw [← flags] at hf
  rw [taken, notTaken] at cycles
  have cycles' : t.stepCycles = if (condAt n).holds s.cpu.f then (tableRow n).taken else (tableRow n).notTaken := by
    obtain same | cond := decodeAt_condition hn b1 b2 row
    · rw [cycles, same, ite_self, ite_self]
    · rw [cycles, cond]
  simp only [FlagCol.allows_iff, condition_iff]
  exact ⟨t, (exec_eq_run _ s).trans ht, fun h => by rw [cycles', if_pos h], fun h => by rw [cycles', if_neg h],
    congrArg Flags.z hf, congrArg Flags.n hf, congrArg Flags.h hf, congrArg Flags.c hf⟩

end Sys2Proof.Certificates
end

section
/-! PROOFS. The cycles of a step (10_state.md R39, 60_exceptions.md R401, 70_reset_and_hazards.md R620). -/
namespace Sys2Proof.Machine

/-- Whole M-cycles from 4 to 24: what a CPU step that is not stopped may cost. -/
def wholeCycles (n : Nat) : Bool := [4, 8, 12, 16, 20, 24].contains n

theorem wholeCycles_iff (n : Nat) : wholeCycles n = true ↔ 4 ≤ n ∧ n ≤ 24 ∧ n % 4 = 0 := by
  simp only [wholeCycles, List.contains_iff_mem, List.mem_cons, List.not_mem_nil, or_false]
  omega

/-- The cycle counts of every instruction but STOP and the undefined bytes. -/
theorem shapeOf_wholeCycles (i : Instr) :
    ((shapeOf i).special || wholeCycles (shapeOf i).taken && wholeCycles (shapeOf i).notTaken) = true := by
  cases i <;> rfl

theorem Effect.totalCycles {ws : List (Word × Byte)} {s t : State} (h : Effect ws s t) :
    t.totalCycles = s.totalCycles := by
  rw [Effect] at h
  rw [h]
  exact (storeAll_same ws s).totalCycles

theorem exec_stop_totalCycles {x : Byte} {s t : State} (h : exec_stop x s = .next t) :
    t.totalCycles = s.totalCycles ∧ (t.status = .running → t.stepCycles = 4) := by
  simp only [exec_stop] at h
  split at h
  · cases h; exact ⟨rfl, fun running => Status.noConfusion running⟩
  · cases h; rw [stopOp_eq]; exact ⟨rfl, fun _ => rfl⟩

/-- No instruction writes the cycle total (R400). -/
theorem exec_totalCycles {i : Instr} {s t : State} (h : exec i s = .next t) : t.totalCycles = s.totalCycles := by
  cases hs : (shapeOf i).special with
  | false =>
    obtain ⟨u, hu, effect, -⟩ := exec_effect i s hs
    obtain rfl : u = t := by rw [hu] at h; injection h
    exact effect.totalCycles
  | true =>
    obtain ⟨x, rfl⟩ | ⟨op, rfl⟩ := special_cases i hs
    · exact (exec_stop_totalCycles h).1
    · cases h; rfl

/-- An instruction that leaves the run going costs whole M-cycles (R401). -/
theorem exec_stepCycles {i : Instr} {s t : State} (h : exec i s = .next t) (running : t.status = .running) :
    wholeCycles t.stepCycles = true := by
  cases hs : (shapeOf i).special with
  | false =>
    obtain ⟨u, hu, cycles, -⟩ := Shape.run_cycles_flags (shapeOf i) s hs
    obtain rfl : u = t := by rw [exec_eq_run, hu] at h; injection h
    have whole := shapeOf_wholeCycles i
    rw [hs, Bool.false_or, Bool.and_eq_true] at whole
    rw [cycles]
    split
    · exact whole.1
    · exact whole.2
  | true =>
    obtain ⟨x, rfl⟩ | ⟨op, rfl⟩ := special_cases i hs
    · rw [(exec_stop_totalCycles h).2 running]; rfl
    · cases h; exact Status.noConfusion running

/-! ### The step -/

theorem p1Read_low (j : Joypad) : (p1Read j).toNat % 16 = (p1Low j).toNat := by
  have low : (p1Read j).setWidth 4 = p1Low j := by
    refine BitVec.eq_of_getLsbD_eq fun k hk => ?_
    rw [BitVec.getLsbD_setWidth, decide_eq_true hk, Bool.true_and, p1Read_line j hk]
  rw [← low, BitVec.toNat_setWidth]

/-- The CPU stays stopped while no line of P1 is low (R402, R353). -/
theorem staysStopped_iff (s : State) :
    staysStopped s = true ↔ s.cpu.stopped = true ∧ (p1Read s.joy).toNat % 16 = 15 := by
  rw [p1Read_low, staysStopped, Bool.and_eq_true, beq_iff_eq, ← BitVec.toNat_inj]
  rfl

theorem step_stopped {s : State} (running : s.status = .running) (h : staysStopped s = true) :
    step s = .next (advanceDevices (withCycles 0 s)) := by
  simp only [step, running, h, if_true]

@[simp] theorem advanceDevices_totalCycles (s : State) :
    (advanceDevices s).totalCycles = s.totalCycles + s.stepCycles := by rw [advanceDevices_eq]
@[simp] theorem advanceDevices_stepCycles (s : State) : (advanceDevices s).stepCycles = s.stepCycles := by
  rw [advanceDevices_eq]

theorem settleIme_totalCycles (e : Bool) (s : State) : (settleIme e s).totalCycles = s.totalCycles := by
  rw [settleIme]; split <;> rfl
theorem settleIme_stepCycles (e : Bool) (s : State) : (settleIme e s).stepCycles = s.stepCycles := by
  rw [settleIme]; split <;> rfl

theorem dispatch_totalCycles (k : Nat) (vec : Word) (s : State) : (dispatch k vec s).totalCycles = s.totalCycles := by
  rw [dispatch_eq]; exact (storeAll_same _ s).totalCycles

/-- A step that leaves the run going and does not stay stopped adds whole M-cycles (R401). -/
theorem step_cycles {s t : State} (h : step s = .next t) (running : t.status = .running)
    (awake : staysStopped s = false) :
    t.totalCycles = s.totalCycles + t.stepCycles ∧ wholeCycles t.stepCycles = true := by
  cases (step_cases h).2 with
  | stopped stays _ => rw [awake] at stays; exact Bool.noConfusion stays
  | halted _ _ e => subst e; exact ⟨by simp, by simp; rfl⟩
  | dispatched k vec _ e =>
    subst e
    have cycles : (dispatch k vec (unhalt (unstop s))).stepCycles = 20 := rfl
    rw [advanceDevices_totalCycles, advanceDevices_stepCycles, dispatch_totalCycles, cycles]
    exact ⟨rfl, rfl⟩
  | ran u hx hu e =>
    subst e
    rw [advanceDevices_totalCycles, advanceDevices_stepCycles, settleIme_totalCycles, settleIme_stepCycles,
      exec_totalCycles hx]
    exact ⟨rfl, exec_stepCycles hx hu⟩
  | ended u _ hu e => subst e; exact absurd running hu

end Sys2Proof.Machine

namespace Sys2Proof.Certificates
open Sys2Proof.Machine

/-- Settles O50, by whether the CPU stays stopped. -/
theorem cycleAccounting : Obligations.CycleAccounting := by
  intro s t h running
  rw [← staysStopped_iff]
  cases stays : staysStopped s with
  | true =>
    obtain rfl : advanceDevices (withCycles 0 s) = t := by
      rw [step_stopped (step_cases h).1 stays] at h; injection h
    simp
  | false =>
    obtain ⟨total, whole⟩ := step_cycles h running stays
    rw [wholeCycles_iff] at whole
    exact ⟨total, by simp; omega, whole.2.1, whole.2.2⟩

end Sys2Proof.Certificates
end

section
/-! PROOFS. The registers and control bits outside an instruction's destinations (10_state.md R32, R38). -/
namespace Sys2Proof.Machine
open Certificates (regsOf)

/-- The CPU registers and control bits that an operation may write; PC, F and the HALT bug bit are not in question. -/
structure Footprint where
  regs : List R8 := []
  sp : Bool := false
  ime : Bool := false
  imeDelay : Bool := false
  halted : Bool := false
  stopped : Bool := false

/-- From `s` to `t` nothing outside the footprint is written. -/
structure KeepsOutside (fp : Footprint) (s t : State) : Prop where
  regs : ∀ r : R8, r ≠ .atHL → r ∉ fp.regs → rd8 t r = rd8 s r
  sp : fp.sp = false → t.cpu.sp = s.cpu.sp
  ime : fp.ime = false → t.cpu.ime = s.cpu.ime
  imeDelay : fp.imeDelay = false → t.cpu.imeDelay = s.cpu.imeDelay
  halted : fp.halted = false → t.cpu.halted = s.cpu.halted
  stopped : fp.stopped = false → t.cpu.stopped = s.cpu.stopped

/-- The registers that the table R174 names are CPU registers, but for (HL). -/
theorem rd8_congr {s t : State} (h : t.cpu.a = s.cpu.a ∧ t.cpu.b = s.cpu.b ∧ t.cpu.c = s.cpu.c ∧ t.cpu.d = s.cpu.d
    ∧ t.cpu.e = s.cpu.e ∧ t.cpu.h = s.cpu.h ∧ t.cpu.l = s.cpu.l) {r : R8} (hr : r ≠ .atHL) : rd8 t r = rd8 s r := by
  obtain ⟨a, b, c, d, e, h, l⟩ := h
  cases r
  case atHL => exact absurd rfl hr
  all_goals assumption

namespace KeepsOutside
variable {fp : Footprint} {s t u : State}

theorem trans (h : KeepsOutside fp s t) (h' : KeepsOutside fp t u) : KeepsOutside fp s u :=
  ⟨fun r hr hmem => (h'.regs r hr hmem).trans (h.regs r hr hmem), fun k => (h'.sp k).trans (h.sp k),
    fun k => (h'.ime k).trans (h.ime k), fun k => (h'.imeDelay k).trans (h.imeDelay k),
    fun k => (h'.halted k).trans (h.halted k), fun k => (h'.stopped k).trans (h.stopped k)⟩

/-- An operation that writes no CPU register. -/
theorem ofCpu (h : t.cpu = s.cpu) : KeepsOutside fp s t := by
  refine ⟨fun _ hr _ => rd8_congr ?_ hr, ?_, ?_, ?_, ?_, ?_⟩ <;> simp [h]

theorem advance (fp : Footprint) (len : Nat) (s : State) : KeepsOutside fp s (advance len s) :=
  ⟨fun r _ _ => rd8_advance len s r, fun _ => rfl, fun _ => rfl, fun _ => rfl, fun _ => rfl, fun _ => rfl⟩

theorem withCycles (h : KeepsOutside fp s t) (n : Nat) : KeepsOutside fp s (withCycles n t) := h.trans (ofCpu rfl)

theorem memWrite (h : KeepsOutside fp s t) (a : Word) (v : Byte) : KeepsOutside fp s (memWrite t a v) :=
  h.trans (ofCpu (memWrite_cpu t a v))

theorem withFlags (h : KeepsOutside fp s t) (f : Flags) : KeepsOutside fp s (withFlags t f) :=
  h.trans ⟨fun _ hr _ => rd8_congr ⟨rfl, rfl, rfl, rfl, rfl, rfl, rfl⟩ hr, fun _ => rfl, fun _ => rfl, fun _ => rfl,
    fun _ => rfl, fun _ => rfl⟩

theorem withPc (h : KeepsOutside fp s t) (v : Word) : KeepsOutside fp s (withPc t v) :=
  h.trans ⟨fun _ hr _ => rd8_congr ⟨rfl, rfl, rfl, rfl, rfl, rfl, rfl⟩ hr, fun _ => rfl, fun _ => rfl, fun _ => rfl,
    fun _ => rfl, fun _ => rfl⟩

theorem withSp (h : KeepsOutside fp s t) (v : Word) (sp : fp.sp = true) : KeepsOutside fp s (withSp t v) :=
  h.trans ⟨fun _ hr _ => rd8_congr ⟨rfl, rfl, rfl, rfl, rfl, rfl, rfl⟩ hr, fun k => Bool.noConfusion (sp.symm.trans k),
    fun _ => rfl, fun _ => rfl, fun _ => rfl, fun _ => rfl⟩

theorem wr8 (h : KeepsOutside fp s t) (dst : R8) (v : Byte) (mem : dst ∈ fp.regs) :
    KeepsOutside fp s (wr8 t dst v) := by
  by_cases hdst : dst = .atHL
  · subst hdst; exact h.memWrite _ v
  · refine h.trans ⟨fun r hr hmem => ?_, ?_, ?_, ?_, ?_, ?_⟩
    · rw [rd8_wr8 t v hdst hr, if_neg (fun same : r = dst => hmem (same ▸ mem))]
    all_goals cases dst
    all_goals simp [Machine.wr8]

theorem withA (h : KeepsOutside fp s t) (v : Byte) (mem : R8.a ∈ fp.regs) : KeepsOutside fp s (withA t v) :=
  h.wr8 .a v mem

theorem withPair (h : KeepsOutside fp s t) (p : Pair) (v : Word) (mem : regsOf p ⊆ fp.regs)
    (sp : p = .sp → fp.sp = true) : KeepsOutside fp s (withPair t p v) := by
  refine h.trans ⟨fun r hr hmem => rd8_withPair t v hr fun k => hmem (mem k), fun k => ?_, fun _ => setPair_ime ..,
    fun _ => setPair_imeDelay .., fun _ => setPair_halted .., fun _ => setPair_stopped ..⟩
  refine setPair_sp _ (fun hp => ?_) v
  rw [sp hp] at k
  exact Bool.noConfusion k

theorem push16 (h : KeepsOutside fp s t) (v : Word) (sp : fp.sp = true) : KeepsOutside fp s (push16 v t) := by
  rw [push16_eq]
  exact ((h.memWrite _ _).memWrite _ _).withSp _ sp

end KeepsOutside

/-- One footprint lies inside another. -/
def Footprint.within (fp fp' : Footprint) : Bool :=
  fp.regs.all fp'.regs.contains && (!fp.sp || fp'.sp) && (!fp.ime || fp'.ime) && (!fp.imeDelay || fp'.imeDelay)
    && (!fp.halted || fp'.halted) && (!fp.stopped || fp'.stopped)

/-- A larger footprint keeps less. -/
theorem KeepsOutside.mono {fp fp' : Footprint} {s t : State} (h : KeepsOutside fp s t) (hw : fp.within fp' = true) :
    KeepsOutside fp' s t := by
  have bit {b b' : Bool} (hb : b = false ∨ b' = true) (k : b' = false) : b = false := by
    obtain hb | hb := hb
    · exact hb
    · rw [hb] at k; exact Bool.noConfusion k
  simp only [Footprint.within, Bool.and_eq_true, Bool.or_eq_true, Bool.not_eq_true', List.all_eq_true,
    List.contains_iff_mem] at hw
  obtain ⟨⟨⟨⟨⟨regs, sp⟩, ime⟩, imeDelay⟩, halted⟩, stopped⟩ := hw
  exact ⟨fun r hr hmem => h.regs r hr fun k => hmem (regs r k), fun k => h.sp (bit sp k), fun k => h.ime (bit ime k),
    fun k => h.imeDelay (bit imeDelay k), fun k => h.halted (bit halted k), fun k => h.stopped (bit stopped k)⟩

/-- The footprint of a shape. -/
def Shape.footprint : Shape → Footprint
  | .ldReg dst _ | .ldImm dst _ | .ldFromHL dst => { regs := [dst] }
  | .stepReg _ r | .cbRot _ r | .cbWrite _ r => { regs := [r] }
  | .ldAFrom _ _ _ | .accReg _ _ | .accImm _ _ | .acc _ => { regs := [.a] }
  | .stAAtHLStep _ | .addHL _ | .ldHlSp _ => { regs := [.h, .l] }
  | .ldAFromHLStep _ => { regs := [.a, .h, .l] }
  | .ldPairImm p _ | .stepPair _ p => { regs := regsOf p, sp := p == .sp }
  | .pop p => { regs := regsOf p, sp := true }
  | .ldSpHl | .addSp _ | .push _ | .call _ _ _ _ _ | .ret _ _ _ => { sp := true }
  | .reti => { sp := true, ime := true }
  | .di => { ime := true, imeDelay := true }
  | .ei => { imeDelay := true }
  | .halt => { halted := true }
  | .stop _ => { stopped := true }
  | .ldToHL _ | .stImmAtHL _ | .stAAt _ _ _ | .stSp _ | .cbBit _ _ | .jump _ _ _ _ _ | .nop | .undefined _ => {}

theorem haltOp_keepsOutside (t : State) : KeepsOutside { halted := true } t (haltOp t) := by
  have wrote (k : true = false) : False := Bool.noConfusion k
  have regs {r : R8} (hr : r ≠ .atHL) : rd8 (haltOp t) r = rd8 t r := by
    refine rd8_congr ?_ hr
    simp only [haltOp]
    split_ifs <;> exact ⟨rfl, rfl, rfl, rfl, rfl, rfl, rfl⟩
  refine ⟨fun r hr _ => regs hr, fun _ => ?_, fun _ => ?_, fun _ => ?_, fun k => (wrote k).elim, fun _ => ?_⟩
  all_goals
    simp only [haltOp]
    split_ifs <;> rfl

theorem stopOp_keepsOutside (t : State) : KeepsOutside { stopped := true } t (stopOp t) := by
  have cpu : (stopOp t).cpu = { t.cpu with stopped := true } := by rw [stopOp_eq]
  refine ⟨fun _ hr _ => rd8_congr ?_ hr, fun _ => ?_, fun _ => ?_, fun _ => ?_, fun _ => ?_,
    fun k => Bool.noConfusion (show true = false from k)⟩ <;> simp [cpu]

theorem returnFromInterrupt_keepsOutside (t : State) :
    KeepsOutside { sp := true, ime := true } t (returnFromInterrupt t) := by
  refine ⟨fun _ hr _ => rd8_congr ?_ hr, fun k => Bool.noConfusion (show true = false from k),
    fun k => Bool.noConfusion (show true = false from k), fun _ => ?_, fun _ => ?_, fun _ => ?_⟩
    <;> simp [returnFromInterrupt]

/-- No shape writes outside its footprint. -/
theorem Shape.run_keepsOutside (i : Shape) {s t : State} (h : i.run s = .next t) : KeepsOutside i.footprint s t := by
  have adv := fun len => KeepsOutside.advance i.footprint len s
  have written {α : Sort} (k : true = false) : α := Bool.noConfusion k
  cases i
  case ldReg | ldImm | ldFromHL | cbWrite => cases h; exact ((adv _).wr8 _ _ (by simp [footprint])).withCycles _
  case ldToHL | stImmAtHL | stAAt => cases h; exact ((adv _).memWrite _ _).withCycles _
  case ldAFrom => cases h; exact ((adv _).withA _ (by simp [footprint])).withCycles _
  case stAAtHLStep =>
    cases h; exact (((adv 1).memWrite _ _).withPair .hl _ (by simp [footprint, regsOf]) nofun).withCycles _
  case ldAFromHLStep =>
    cases h
    exact (((adv 1).withA _ (by simp [footprint])).withPair .hl _ (by simp [footprint, regsOf]) nofun).withCycles _
  case ldPairImm p _ =>
    cases h; exact ((adv 3).withPair p _ (List.Subset.refl _) (by simp [footprint])).withCycles _
  case stSp => cases h; exact (((adv 3).memWrite _ _).memWrite _ _).withCycles _
  case ldSpHl => cases h; exact ((adv 1).withSp _ rfl).withCycles _
  case ldHlSp =>
    cases h; exact (((adv 2).withPair .hl _ (by simp [footprint, regsOf]) nofun).withFlags _).withCycles _
  case addSp => cases h; exact (((adv 2).withSp _ rfl).withFlags _).withCycles _
  case push => cases h; exact ((adv 1).push16 _ rfl).withCycles _
  case pop p => cases h; exact (((adv 1).withSp _ rfl).withPair p _ (List.Subset.refl _) fun _ => rfl).withCycles _
  case accReg | accImm | acc => cases h; exact (((adv _).withA _ (by simp [footprint])).withFlags _).withCycles _
  case stepReg | cbRot => cases h; exact (((adv _).wr8 _ _ (by simp [footprint])).withFlags _).withCycles _
  case addHL =>
    cases h; exact (((adv 1).withPair .hl _ (by simp [footprint, regsOf]) nofun).withFlags _).withCycles _
  case stepPair _ p =>
    cases h; exact ((adv 1).withPair p _ (List.Subset.refl _) (by simp [footprint])).withCycles _
  case cbBit => cases h; exact ((adv 2).withFlags _).withCycles _
  case jump cond len _ _ _ =>
    simp only [run] at h
    split at h
    · cases h; exact ((adv len).withPc _).withCycles _
    · cases h; exact (adv len).withCycles _
  case call cond len _ _ _ =>
    simp only [run] at h
    split at h
    · cases h; exact (((adv len).push16 _ rfl).withPc _).withCycles _
    · cases h; exact (adv len).withCycles _
  case ret =>
    simp only [run] at h
    split at h
    · cases h; exact (((adv 1).withSp _ rfl).withPc _).withCycles _
    · cases h; exact (adv 1).withCycles _
  case reti => cases h; exact ((adv 1).trans (returnFromInterrupt_keepsOutside _)).withCycles _
  case nop => cases h; exact (adv 1).withCycles _
  case di =>
    cases h
    exact ⟨fun _ hr _ => rd8_congr ⟨rfl, rfl, rfl, rfl, rfl, rfl, rfl⟩ hr, fun _ => rfl, written, written, fun _ => rfl,
      fun _ => rfl⟩
  case ei =>
    cases h
    exact ⟨fun _ hr _ => rd8_congr ⟨rfl, rfl, rfl, rfl, rfl, rfl, rfl⟩ hr, fun _ => rfl, fun _ => rfl, written,
      fun _ => rfl, fun _ => rfl⟩
  case halt => cases h; exact ((adv 1).trans (haltOp_keepsOutside _)).withCycles _
  case stop x =>
    simp only [run, exec_stop] at h
    split at h
    · cases h; exact .ofCpu rfl
    · cases h; exact ((adv 2).trans (stopOp_keepsOutside _)).withCycles _
  case undefined => cases h; exact .ofCpu rfl

/-- The operations that answer A as its new value: CP, SCF and CCF (R258, R265, R266). -/
def Shape.KeepsA : Shape → Prop
  | .accReg op _ => ∀ f a v, (op f a v).1 = a
  | .accImm op _ => ∀ f a v, (op f a v).1 = a
  | .acc f => ∀ s, (f s).1 = s.cpu.a
  | _ => False

/-- They write no register but F. -/
theorem Shape.KeepsA.keepsOutside {i : Shape} (hA : i.KeepsA) {s t : State} (h : i.run s = .next t) :
    KeepsOutside {} s t := by
  have same (u : State) : withA u u.cpu.a = u := rfl
  cases i
  case accReg op r =>
    cases h
    rw [hA, same]
    exact ((KeepsOutside.advance _ 1 s).withFlags _).withCycles _
  case accImm op n =>
    cases h
    rw [hA, same]
    exact ((KeepsOutside.advance _ 2 s).withFlags _).withCycles _
  case acc f =>
    cases h
    rw [hA]
    exact ((KeepsOutside.advance _ 1 s).withFlags _).withCycles _
  all_goals exact hA.elim

end Sys2Proof.Machine

namespace Sys2Proof.Certificates
open Sys2Proof.Machine

/-- What the bytes of an instruction name as its destinations (R32, R38). -/
def footprintAt (b0 b1 : Byte) : Footprint where
  regs := writtenRegs b0 b1
  sp := writesSp b0
  ime := b0 == 0xD9 || b0 == 0xF3
  imeDelay := b0 == 0xFB || b0 == 0xF3
  halted := b0 == 0x76
  stopped := b0 == 0x10

/-- The first bytes of CP, SCF and CCF. -/
def keepsABytes : List Nat := [0x37, 0x3F, 0xB8, 0xB9, 0xBA, 0xBB, 0xBC, 0xBD, 0xBE, 0xBF, 0xFE]

theorem decodeAt_keepsA {n : Nat} (h : n ∈ keepsABytes) (b1 b2 : Byte) :
    (shapeOf (decodeAt (byte n) b1 b2)).KeepsA := by
  simp only [keepsABytes, List.mem_cons, List.not_mem_nil, or_false] at h
  obtain rfl | rfl | rfl | rfl | rfl | rfl | rfl | rfl | rfl | rfl | rfl := h <;> intro <;> intros <;> rfl

/-- The CB map: a rotate, RES or SET writes its operand, BIT nothing. -/
theorem decodeAt_cb_within {k : Nat} (hk : k < 256) (b2 : Byte) :
    (shapeOf (decodeAt 0xCB (byte k) b2)).footprint.within (footprintAt 0xCB (byte k)) = true := by
  interval_cases k <;> rfl

/-- The map of R181, byte by byte. -/
theorem decodeAt_within {n : Nat} (hn : n < 256) (hcb : n ≠ 0xCB) (hA : n ∉ keepsABytes) (b1 b2 : Byte) :
    (shapeOf (decodeAt (byte n) b1 b2)).footprint.within (footprintAt (byte n) b1) = true := by
  interval_cases n
  all_goals try contradiction
  all_goals rfl

/-- Every instruction keeps what its bytes do not name. -/
theorem decodeAt_keepsOutside {b0 b1 b2 : Byte} {s t : State} (h : exec (decodeAt b0 b1 b2) s = .next t) :
    KeepsOutside (footprintAt b0 b1) s t := by
  rw [exec_eq_run] at h
  obtain ⟨n, hn, rfl⟩ := exists_byte b0
  obtain ⟨k, hk, rfl⟩ := exists_byte b1
  by_cases hA : n ∈ keepsABytes
  · exact ((decodeAt_keepsA hA _ b2).keepsOutside h).mono rfl
  · refine (Shape.run_keepsOutside _ h).mono ?_
    by_cases hcb : n = 0xCB
    · subst hcb; exact decodeAt_cb_within hk b2
    · exact decodeAt_within hn hcb hA _ b2

/-- Settles O35: no shape writes outside its footprint, which lies inside the destinations that the bytes name. -/
theorem registersOutsideDestinationsKept : Obligations.RegistersOutsideDestinationsKept := by
  intro s t b0 b1 b2 h
  have keeps := decodeAt_keepsOutside h
  have setup := exec_keepsSetup h
  refine ⟨keeps.regs, keeps.sp, fun h1 h2 => keeps.ime ?_, fun h1 h2 => keeps.imeDelay ?_, fun h1 => keeps.halted ?_,
    fun h1 => keeps.stopped ?_, setup.cfg, setup.dirs, setup.acts, exec_totalCycles h⟩
  all_goals simp_all [footprintAt]

end Sys2Proof.Certificates
end

section
/-! PROOFS. Every step keeps the state legal (20_memory.md R101, 60_exceptions.md R471, R473, 47_system.md R351, R353): the
stores of an instruction or a dispatch keep the invariant, and the control bits are set only under their parameters. -/
namespace Sys2Proof.Machine

theorem controlOk_iff (s : State) :
    controlOk s = true ↔ (s.cpu.stopped = true → s.cfg.stopMode = .lowPower)
      ∧ (s.cpu.haltBug = true → s.cfg.haltBug = true) := by
  simp only [controlOk, Bool.and_eq_true, Bool.or_eq_true, Bool.not_eq_true', beq_iff_eq, ← imp_iff_or_not,
    ← Bool.not_eq_true, or_comm]

/-- What an ordinary instruction leaves: its stores, then a change of the CPU that keeps the control bits. -/
theorem exec_ordinary {i : Instr} {s t : State} (ordinary : (shapeOf i).special = false) (h : exec i s = .next t) :
    Effect ((shapeOf i).stores s) s t ∧ KeepsControl s t := by
  obtain ⟨u, hu, left⟩ := exec_effect i s ordinary
  obtain rfl : u = t := by rw [hu] at h; injection h
  exact left

/-- Legality says nothing of the CPU but its control bits, and nothing of the cycle count. -/
theorem ok_withCpu {s : State} (h : s.ok = true) {c : Cpu} {n : Nat}
    (hc : controlOk { s with cpu := c, stepCycles := n } = true) :
    State.ok { s with cpu := c, stepCycles := n } = true := by
  obtain ⟨stores, cfg, ppu, -⟩ := (ok_iff s).1 h
  exact (ok_iff _).2 ⟨stores, cfg, ppu, hc⟩

/-- An instruction that stores its bytes and keeps the control bits keeps the state legal. -/
theorem Effect.ok {ws : List (Word × Byte)} {s t : State} (effect : Effect ws s t) (control : KeepsControl s t)
    (h : s.ok = true) : t.ok = true := by
  have same := storeAll_same ws s
  obtain ⟨-, -, -, hc⟩ := (ok_iff s).1 h
  obtain ⟨stopped, haltBug⟩ := (controlOk_iff s).1 hc
  rw [effect]
  refine ok_withCpu (storeAll_ok ws s h) ((controlOk_iff _).2 ⟨fun k => ?_, fun k => ?_⟩)
  · rw [same.cfg]; exact stopped (control.stopped ▸ k)
  · rw [same.cfg]; exact control.haltBug k

/-- STOP sets `stopped` only under LOW_POWER (R352, R353). -/
theorem exec_stop_ok {x : Byte} {s t : State} (hx : exec_stop x s = .next t) (h : s.ok = true) : t.ok = true := by
  obtain ⟨stores, cfg, ppu, hc⟩ := (ok_iff s).1 h
  simp only [exec_stop] at hx
  split at hx
  · cases hx; exact h
  · next mode =>
    cases hx
    rw [stopOp_eq]
    exact (ok_iff _).2 ⟨stores, cfg, ppu, (controlOk_iff _).2 ⟨fun _ => mode, nofun⟩⟩

/-- Every instruction keeps the state legal. -/
theorem exec_ok {i : Instr} {s t : State} (hx : exec i s = .next t) (h : s.ok = true) : t.ok = true := by
  cases hs : (shapeOf i).special with
  | false =>
    obtain ⟨effect, control⟩ := exec_ordinary hs hx
    exact effect.ok control h
  | true =>
    obtain ⟨x, rfl⟩ | ⟨op, rfl⟩ := special_cases i hs
    · exact exec_stop_ok hx h
    · cases hx; exact h

/-- A dispatch clears the HALT bug bit and keeps `stopped` (R430). -/
theorem dispatch_ok (k : Nat) (vec : Word) {s : State} (h : s.ok = true) : (dispatch k vec s).ok = true := by
  rw [dispatch_eq]
  have pushed {c : Cpu} (hstop : c.stopped = s.cpu.stopped) (hbug : c.haltBug = false) :
      State.ok { storeAll (pushStores (dispatchReturn s) s) s with cpu := c, stepCycles := 20 } = true :=
    Effect.ok (s := s) rfl (.of hstop hbug) h
  exact pushed rfl rfl

theorem settleIme_ok (e : Bool) {s : State} (h : s.ok = true) : (settleIme e s).ok = true := by
  rw [settleIme]; split <;> exact h

theorem unstop_ok {s : State} (h : s.ok = true) : (unstop s).ok = true := by
  obtain ⟨-, -, -, hc⟩ := (ok_iff s).1 h
  exact ok_withCpu (s := s) h ((controlOk_iff _).2 ⟨nofun, ((controlOk_iff s).1 hc).2⟩)

/-- The five ways of a step: each keeps the state legal. -/
theorem step_ok {s t : State} (hs : step s = .next t) (h : s.ok = true) : t.ok = true := by
  have awake : (unhalt (unstop s)).ok = true := unstop_ok (s := s) h
  cases (step_cases hs).2 with
  | stopped _ e => rw [e]; exact advanceDevices_ok _ h
  | halted _ _ e => rw [e]; exact advanceDevices_ok _ (unstop_ok (s := s) h)
  | dispatched k vec _ e => rw [e]; exact advanceDevices_ok _ (dispatch_ok k vec awake)
  | ran u hx _ e => rw [e]; exact advanceDevices_ok _ (settleIme_ok _ (exec_ok hx awake))
  | ended u hx _ e => rw [e]; exact exec_ok hx awake

end Sys2Proof.Machine

namespace Sys2Proof.Certificates
open Sys2Proof.Machine

/-- Settles O59, by the five ways a step answers a next state, each of which keeps the state legal. -/
theorem stepKeepsStateLegal : Obligations.StepKeepsStateLegal := fun _ _ h hs => step_ok hs h

end Sys2Proof.Certificates
end

section
/-! PROOFS. A running machine always has a next state (20_memory.md R112, 60_exceptions.md R406, R441). -/
namespace Sys2Proof.Machine

/-- Every instruction answers a next state. -/
theorem exec_next (i : Instr) (s : State) : ∃ t, exec i s = .next t := by
  cases hs : (shapeOf i).special with
  | false =>
    obtain ⟨t, ht, -⟩ := exec_effect i s hs
    exact ⟨t, ht⟩
  | true =>
    obtain ⟨x, rfl⟩ | ⟨op, rfl⟩ := special_cases i hs
    · change ∃ t, exec_stop x s = .next t
      rw [exec_stop]
      split <;> exact ⟨_, rfl⟩
    · exact ⟨_, rfl⟩

theorem finishStep_next (e : Bool) (t : State) : ∃ u, finishStep e (.next t) = .next u := by
  rw [finishStep]; split <;> exact ⟨_, rfl⟩

theorem runCpu_next (s : State) : ∃ t, runCpu s = .next t := by
  rw [runCpu]
  split
  · exact ⟨_, rfl⟩
  · obtain ⟨t, ht⟩ := exec_next (fetchInstr s) s
    rw [ht]; exact finishStep_next _ t

/-- A step of a running machine waits or runs the CPU; both answer a next state. -/
theorem step_next {s : State} (running : s.status = .running) : ∃ t, step s = .next t := by
  simp only [step, running, runAwake]
  split_ifs
  · exact ⟨_, rfl⟩
  · exact ⟨_, rfl⟩
  · exact runCpu_next _

end Sys2Proof.Machine

namespace Sys2Proof.Certificates
open Sys2Proof.Machine

/-- Settles O32: a running machine has a next state, and an ended run answers what `status` records. -/
theorem stepEnabledWhileRunning : Obligations.StepEnabledWhileRunning :=
  fun _ => ⟨step_next, fun _ _ ended => by simp only [step, ended], fun _ _ ended => by simp only [step, ended]⟩

end Sys2Proof.Certificates
end

section
/-! PROOFS. The bytes that an instruction stores, and what it leaves (20_memory.md R105, R106, R111). -/
namespace Sys2Proof.Machine
open Certificates (isolated)

/-- Stores to isolated places leave what is read at every other place (R106). -/
theorem memRead_storeAll_ne {ws : List (Word × Byte)} {s : State} {b : Word}
    (places : ∀ w ∈ ws, isolated (locate s w.1) = true ∧ locate s b ≠ locate s w.1) :
    memRead (storeAll ws s) b = memRead s b := by
  induction ws generalizing s with
  | nil => rfl
  | cons w ws ih =>
    obtain ⟨⟨first, apart⟩, rest⟩ := List.forall_mem_cons.1 places
    have same := locate_memWrite s w.2 (isolated_ne_cart first)
    rw [storeAll, ih (by simpa only [same] using rest), memRead_memWrite_ne s first apart]

theorem Effect.memRead {ws : List (Word × Byte)} {s t : State} (effect : Effect ws s t) (b : Word) :
    memRead t b = memRead (storeAll ws s) b := by
  rw [effect]; rfl

end Sys2Proof.Machine

namespace Sys2Proof.Certificates
open Sys2Proof.Machine

/-- The first bytes of the conditional calls (R327). -/
def conditionalCalls : List Nat := [0xC4, 0xCC, 0xD4, 0xDC]

theorem shapeOf_conditionalCall {n : Nat} (h : n ∈ conditionalCalls) (b1 b2 : Byte) :
    shapeOf (decodeAt (byte n) b1 b2) = .call (condAt n).holds 3 24 12 (mk16 b2 b1) := by
  simp only [conditionalCalls, List.mem_cons, List.not_mem_nil, or_false] at h
  obtain rfl | rfl | rfl | rfl := h <;> rfl

theorem storedAt_conditionalCall {n : Nat} (h : n ∈ conditionalCalls) (b1 b2 : Byte) (s : State) :
    storedAt (byte n) b1 b2 s = if (condAt n).holds s.cpu.f then [s.cpu.sp - 1, s.cpu.sp - 2] else [] := by
  simp only [conditionalCalls, List.mem_cons, List.not_mem_nil, or_false] at h
  obtain rfl | rfl | rfl | rfl := h <;> simp [storedAt, toNat_byte]

/-- A conditional call stores to the two stack bytes where its condition holds, and nowhere else. -/
theorem stores_conditionalCall {n : Nat} (h : n ∈ conditionalCalls) (b1 b2 : Byte) (s : State) :
    ((shapeOf (decodeAt (byte n) b1 b2)).stores s).map Prod.fst = storedAt (byte n) b1 b2 s := by
  rw [shapeOf_conditionalCall h, storedAt_conditionalCall h, Shape.stores]
  split <;> rfl

theorem stores_cb {k : Nat} (hk : k < 256) (b2 : Byte) (s : State) :
    ((shapeOf (decodeAt 0xCB (byte k) b2)).stores s).map Prod.fst = storedAt 0xCB (byte k) b2 s := by
  interval_cases k <;> rfl

theorem stores_unprefixed {n : Nat} (hn : n < 256) (hcb : n ≠ 0xCB) (hcall : n ∉ conditionalCalls) (b1 b2 : Byte)
    (s : State) : ((shapeOf (decodeAt (byte n) b1 b2)).stores s).map Prod.fst = storedAt (byte n) b1 b2 s := by
  interval_cases n
  all_goals try contradiction
  all_goals rfl

/-- The addresses that the bytes of an instruction name are those its meaning stores to, in their order (R105). -/
theorem stores_decodeAt (b0 b1 b2 : Byte) (s : State) :
    ((shapeOf (decodeAt b0 b1 b2)).stores s).map Prod.fst = storedAt b0 b1 b2 s := by
  obtain ⟨n, hn, rfl⟩ := exists_byte b0
  obtain ⟨k, hk, rfl⟩ := exists_byte b1
  by_cases hcall : n ∈ conditionalCalls
  · exact stores_conditionalCall hcall _ b2 s
  · by_cases hcb : n = 0xCB
    · subst hcb; exact stores_cb hk b2 s
    · exact stores_unprefixed hn hcb hcall _ b2 s

theorem decodeAt_undefined {b0 : Byte} (h : undefinedBytes.contains b0 = true) (b1 b2 : Byte) :
    decodeAt b0 b1 b2 = .undefined b0 := by
  simp only [undefinedBytes, List.contains_iff_mem, List.mem_cons, List.not_mem_nil, or_false] at h
  obtain rfl | rfl | rfl | rfl | rfl | rfl | rfl | rfl | rfl | rfl | rfl := h <;> rfl

theorem cb_ordinary (b1 b2 : Byte) : (shapeOf (decodeAt 0xCB b1 b2)).special = false := by
  obtain ⟨k, hk, rfl⟩ := exists_byte b1
  interval_cases k <;> rfl

/-- Every first byte but STOP's and the undefined ones is that of an ordinary instruction. -/
theorem decodeAt_ordinary {b0 : Byte} (hstop : b0 ≠ 0x10) (hundef : undefinedBytes.contains b0 = false) (b1 b2 : Byte) :
    (shapeOf (decodeAt b0 b1 b2)).special = false := by
  by_cases hcb : b0 = 0xCB
  · subst hcb; exact cb_ordinary b1 b2
  · have row := toNat_not_rowless hcb hstop hundef
    obtain ⟨n, hn, rfl⟩ := exists_byte b0
    rw [toNat_byte hn] at row
    exact (decodeAt_fits hn b1 b2 row).1

/-- Settles O34: an ordinary form leaves what its stores leave, and an undefined byte changes only `status`. -/
theorem storesChangeOnlyTheirBytes : Obligations.StoresChangeOnlyTheirBytes := by
  intro s t b0 b1 b2 hstop h places a apart
  cases hundef : undefinedBytes.contains b0 with
  | true => rw [decodeAt_undefined hundef] at h; cases h; rfl
  | false =>
    obtain ⟨effect, -⟩ := exec_ordinary (decodeAt_ordinary hstop hundef b1 b2) h
    rw [effect.memRead]
    refine memRead_storeAll_ne fun w hw => ?_
    have stored : w.1 ∈ storedAt b0 b1 b2 s := stores_decodeAt b0 b1 b2 s ▸ List.mem_map_of_mem hw
    exact ⟨places w.1 stored, apart w.1 stored⟩

/-- Settles O36: a form that stores nothing is an ordinary one with no stores, and its effect is the statement. -/
theorem nonStoringFormsChangeOnlyCpu : Obligations.NonStoringFormsChangeOnlyCpu := by
  intro s t b0 b1 b2 hstop hundef nothing h
  obtain ⟨effect, -⟩ := exec_ordinary (decodeAt_ordinary hstop hundef b1 b2) h
  have empty : (shapeOf (decodeAt b0 b1 b2)).stores s = [] := by
    rw [← List.map_eq_nil_iff (f := Prod.fst), stores_decodeAt, nothing]
  rwa [empty] at effect

end Sys2Proof.Certificates
end

section
/-! PROOFS. The bank controllers MBC1 and MBC3: their register windows, the ROM banks they select and the RAM window
(20_memory.md R120, R121, R125 to R130). -/
namespace Sys2Proof.Machine
open Certificates (reads)

/-- A write to the ROM windows is a write to bank control (R111). -/
theorem memWrite_cart (s : State) {a : Word} (h : a.toNat ≤ 0x7FFF) (v : Byte) :
    memWrite s a v = { s with bank := cartWrite s.bank a.toNat v } := by
  rw [memWrite, locate_cart s a h, writeTarget]

theorem ramEnablePattern_eq (v : Byte) : ramEnablePattern v = decide (v.toNat % 16 = 10) := by revert v; decide

theorem getLsbD_zero_eq (v : Byte) : v.getLsbD 0 = decide (v.toNat % 2 = 1) := by revert v; decide

/-- The RAM window reads and writes what it is decoded to. -/
theorem reads_window {s : State} {a : Word} {x : Target} (h : 0xA000 ≤ a.toNat) (h' : a.toNat ≤ 0xBFFF)
    (hx : xramTarget s (a.toNat - 0xA000) = x) (v : Byte) : reads s a v (readTarget s x) (writeTarget s x v) :=
  reads_of_locate ((locate_window s a h h').trans hx) v

/-- The ROM windows of a cartridge outside the boot overlay, by the bank each one shows. -/
theorem memRead_lowRom (s : State) {a : Word} (h : a.toNat ≤ 0x3FFF)
    (hboot : s.bootRomEnabled = false ∨ 0x100 ≤ a.toNat) :
    memRead s a = Store.read s.cfg.rom (lowBank s.bank % s.cfg.romBanks * 0x4000 + a.toNat) := by
  rw [memRead_cart s (by omega) hboot, cartRead, if_pos h, romByte]

theorem memRead_highRom (s : State) {a : Word} (h : 0x4000 ≤ a.toNat) (h' : a.toNat ≤ 0x7FFF) :
    memRead s a = Store.read s.cfg.rom (highBank s.bank % s.cfg.romBanks * 0x4000 + (a.toNat - 0x4000)) := by
  rw [memRead_cart s h' (.inr (by omega)), cartRead, if_neg (by omega), romByte]

/-! ### MBC1 -/

/-- The upper bits of a bank number lie above the five of the ROM bank register (R126). -/
theorem highBank_mbc1 (m : Mbc1) :
    highBank (.mbc1 m) = m.bank2.toNat * 32 + (if m.bank1 = 0 then 1 else m.bank1.toNat) := by
  have low : (if m.bank1 = 0 then 1 else m.bank1.toNat) < 2 ^ 5 := by
    have := m.bank1.isLt
    split <;> omega
  rw [highBank, ← Nat.shiftLeft_add_eq_or_of_lt low, Nat.shiftLeft_eq]

theorem lowBank_mbc1 (m : Mbc1) : lowBank (.mbc1 m) = if m.mode then m.bank2.toNat * 32 else 0 := by
  rw [lowBank, Nat.shiftLeft_eq]

section
variable {s : State} {m : Mbc1} (hb : s.bank = .mbc1 m)
include hb

theorem xramTarget_mbc1_off (h : m.ramEnable = false ∨ s.cfg.ramSize = 0) (o : Nat) : xramTarget s o = .xramOff := by
  obtain h | h := h <;> simp [xramTarget, hb, h]

theorem xramTarget_mbc1 (on : m.ramEnable = true) (h : s.cfg.ramSize ≠ 0) (o : Nat) :
    xramTarget s o = .xram (ramOff s.cfg (if m.mode then m.bank2.toNat else 0) o) := by
  simp [xramTarget, hb, on, h]

end

/-! ### MBC3 -/

section
variable {s : State} {m : Mbc3} (hb : s.bank = .mbc3 m)
include hb

theorem xramTarget_mbc3_off (h : m.ramEnable = false) (o : Nat) : xramTarget s o = .xramOff := by
  simp [xramTarget, hb, h]

theorem xramTarget_mbc3_rtc (on : m.ramEnable = true) (lo : 8 ≤ m.ramSel.toNat) (hi : m.ramSel.toNat ≤ 12) (o : Nat) :
    xramTarget s o = .rtc := by
  simp [xramTarget, hb, on, lo, hi]

/-- Outside the clock registers the select is a RAM bank, and there is RAM or none (R130). -/
theorem xramTarget_mbc3 (on : m.ramEnable = true) (bank : m.ramSel.toNat < 8 ∨ 12 < m.ramSel.toNat) (o : Nat) :
    xramTarget s o = if s.cfg.ramSize = 0 then .xramOff else .xram (ramOff s.cfg m.ramSel.toNat o) := by
  have noClock : ¬ (0x08 ≤ m.ramSel.toNat ∧ m.ramSel.toNat ≤ 0x0C) := by omega
  simp only [xramTarget, hb, on, Bool.not_true, Bool.false_eq_true, if_false, if_neg noClock]

end

end Sys2Proof.Machine

namespace Sys2Proof.Certificates
open Sys2Proof.Machine

/-- Settles O39: the register a write of each window sets, then the bank each ROM window shows, then the RAM window. -/
theorem mbc1Banking : Obligations.Mbc1Banking := by
  intro s m a v hb
  refine ⟨fun h => ?_, fun h h' => ?_, fun h h' => ?_, fun h h' => ?_, fun h hboot => ?_, fun h h' => ?_,
    fun h h' off => reads_window h h' (xramTarget_mbc1_off hb off _) v,
    fun h h' on hram => reads_window h h' (xramTarget_mbc1 hb on hram _) v⟩
  · rw [memWrite_cart s (by omega), hb, cartWrite, if_pos h, ramEnablePattern_eq]
  · rw [memWrite_cart s (by omega), hb, cartWrite, if_neg (by omega), if_pos h', BitVec.ofNat_toNat]
  · rw [memWrite_cart s (by omega), hb, cartWrite, if_neg (by omega), if_neg (by omega), if_pos h', BitVec.ofNat_toNat]
  · rw [memWrite_cart s (by omega), hb, cartWrite, if_neg (by omega), if_neg (by omega), if_neg (by omega),
      getLsbD_zero_eq]
  · rw [memRead_lowRom s h hboot, hb, lowBank_mbc1]
  · rw [memRead_highRom s h h', hb, highBank_mbc1]

/-- Settles O40: the register a write of each window sets, then the bank each ROM window shows, then the RAM window. -/
theorem mbc3Banking : Obligations.Mbc3Banking := by
  intro s m a v hb
  refine ⟨fun h => ?_, fun h h' => ?_, fun h h' => ?_, fun h h' => ?_, fun h hboot => ?_, fun h h' => ?_,
    fun h h' off => reads_window h h' (xramTarget_mbc3_off hb off _) v,
    fun h h' on lo hi => reads_window h h' (xramTarget_mbc3_rtc hb on lo hi _) v,
    fun h h' on bank hram => reads_window h h' ((xramTarget_mbc3 hb on bank _).trans (if_neg hram)) v,
    fun h h' on bank hram => reads_window h h' ((xramTarget_mbc3 hb on bank _).trans (if_pos hram)) v⟩
  · rw [memWrite_cart s (by omega), hb, cartWrite, if_pos h, ramEnablePattern_eq]
  · rw [memWrite_cart s (by omega), hb, cartWrite, if_neg (by omega), if_pos h', BitVec.ofNat_toNat]
  · rw [memWrite_cart s (by omega), hb, cartWrite, if_neg (by omega), if_neg (by omega), if_pos h']
  · rw [memWrite_cart s h', hb, cartWrite, if_neg (by omega), if_neg (by omega), if_neg (by omega), ← hb]
  · rw [memRead_lowRom s h hboot, hb, lowBank, Nat.zero_mod, Nat.zero_mul, Nat.zero_add]
  · rw [memRead_highRom s h h', hb, highBank]

end Sys2Proof.Certificates
end

section
/-! PROOFS. Decoding and encoding (30_encoding.md R171, R172, R181 to R183): the bytes of what the decoder reads, and what
the decoder reads from the bytes of an instruction. -/
namespace Sys2Proof
open Certificates (exists_byte decodeAt_undefined)

/-! ### What `decode` answers -/

/-- An instruction takes one to three bytes (R171). -/
theorem lengthOf_bounds (b : Byte) : 1 ≤ lengthOf b ∧ lengthOf b ≤ 3 := by
  rw [lengthOf]
  split <;> omega

/-- An instruction is read exactly where its bytes are all there; the rest is what follows them. -/
theorem decode_cons_eq_ok {b : Byte} {ops rest : List Byte} {i : Instr} :
    decode (b :: ops) = .ok (i, rest) ↔
      lengthOf b ≤ ops.length + 1 ∧ decodeAt b (ops.getD 0 0) (ops.getD 1 0) = i ∧ ops.drop (lengthOf b - 1) = rest := by
  rw [decode]
  split
  · next short => simp only [reduceCtorEq, false_iff]; omega
  · next long => simp only [Except.ok.injEq, Prod.mk.injEq, Nat.not_lt.1 long, true_and]

/-! ### The bytes of a decoded instruction -/

/-- The operand bytes of an instruction of the entry, by its format (R172), with `x` or `nn` as its operand. -/
def Entry.operands (x : Byte) (nn : Word) : Entry → List Byte
  | .op _ | .undefinedByte => []
  | .byte _ | .cb => [x]
  | .word _ => [loByte nn, hiByte nn]

theorem operands_entryOf (b0 b1 b2 : Byte) :
    (entryOf b0).operands b1 (mk16 b2 b1) = [b1, b2].take (lengthOf b0 - 1) := by
  rw [lengthOf]
  cases entryOf b0 <;> simp [Entry.operands]

/-- Every byte after CB is a well-formed instruction with that byte as its word (R182). -/
theorem encode_decodeAt_cb (b1 b2 : Byte) :
    encode (decodeAt 0xCB b1 b2) = [0xCB, b1] ∧ (decodeAt 0xCB b1 b2).wf = true := by
  obtain ⟨k, hk, rfl⟩ := exists_byte b1
  interval_cases k <;> exact ⟨rfl, rfl⟩

/-- Every byte of the map R181 begins the word of what it decodes to, which is well formed. -/
theorem encode_decodeAt_operands (b0 b1 b2 : Byte) :
    encode (decodeAt b0 b1 b2) = b0 :: (entryOf b0).operands b1 (mk16 b2 b1) ∧ (decodeAt b0 b1 b2).wf = true := by
  obtain ⟨n, hn, rfl⟩ := exists_byte b0
  obtain below | rfl | above := lt_trichotomy n 0xCB
  · interval_cases n <;> exact ⟨rfl, rfl⟩
  · exact encode_decodeAt_cb b1 b2
  · interval_cases n <;> exact ⟨rfl, rfl⟩

theorem wf_decodeAt (b0 b1 b2 : Byte) : (decodeAt b0 b1 b2).wf = true := (encode_decodeAt_operands b0 b1 b2).2

theorem encode_decodeAt (b0 b1 b2 : Byte) :
    encode (decodeAt b0 b1 b2) = b0 :: [b1, b2].take (lengthOf b0 - 1) := by
  rw [(encode_decodeAt_operands b0 b1 b2).1, operands_entryOf]

/-- An undefined instruction is well formed, and its encoding is the one byte that it was read from. -/
theorem decodeAt_eq_undefined_iff {b0 b1 b2 op : Byte} :
    decodeAt b0 b1 b2 = .undefined op ↔ op = b0 ∧ undefinedBytes.contains b0 = true := by
  constructor
  · intro h
    have bytes := encode_decodeAt b0 b1 b2
    have wf := wf_decodeAt b0 b1 b2
    rw [h] at bytes wf
    obtain rfl : op = b0 := (List.cons.inj bytes).1
    exact ⟨rfl, wf⟩
  · rintro ⟨rfl, undef⟩
    exact decodeAt_undefined undef b1 b2

/-- The operand bytes as the decoder reads them and the bytes after them are together the string. -/
theorem take_getD_append_drop {k : Nat} {ops : List Byte} (two : k ≤ 2) (long : k ≤ ops.length) :
    [ops.getD 0 0, ops.getD 1 0].take k ++ ops.drop k = ops := by
  match k, ops with
  | 0, _ => rfl
  | 1, _ :: _ => rfl
  | 2, _ :: _ :: _ => rfl

/-! ### What the encoding of an instruction decodes to -/

/-- The decoder looks at no byte beyond the instruction. -/
theorem decodeAt_append {b : Byte} {ops : List Byte} (long : lengthOf b ≤ ops.length + 1) (rest : List Byte) :
    decodeAt b ((ops ++ rest).getD 0 0) ((ops ++ rest).getD 1 0) = decodeAt b (ops.getD 0 0) (ops.getD 1 0) := by
  rw [lengthOf] at long
  rw [decodeAt, decodeAt]
  cases h : entryOf b <;> simp only [h] at long ⊢
  case byte | cb => rw [List.getD_append _ _ _ 0 (by omega)]
  case word => rw [List.getD_append _ _ _ 0 (by omega), List.getD_append _ _ _ 1 (by omega)]

theorem decode_append {bs r : List Byte} {i : Instr} (h : decode bs = .ok (i, r)) (rest : List Byte) :
    decode (bs ++ rest) = .ok (i, r ++ rest) := by
  cases bs with
  | nil => cases h
  | cons b ops =>
    obtain ⟨long, rfl, rfl⟩ := decode_cons_eq_ok.1 h
    rw [List.cons_append, decode_cons_eq_ok, List.length_append]
    exact ⟨by omega, decodeAt_append long rest, List.drop_append_of_le_length (by omega)⟩

theorem decode_word {b : Byte} {f : Word → Instr} (h : entryOf b = .word f) (nn : Word) :
    decode [b, loByte nn, hiByte nn] = .ok (f nn, []) :=
  decode_cons_eq_ok.2 (by simp [lengthOf, decodeAt, h])

theorem decode_undefined {op : Byte} (undef : undefinedBytes.contains op = true) :
    decode [op] = .ok (.undefined op, []) :=
  decode_cons_eq_ok.2 ⟨(Laws.EncodedForm.undefined_length op undef).ge, decodeAt_undefined undef _ _, List.drop_nil⟩

/-- The bytes of a well-formed instruction hold it and nothing else: constructor by constructor, each read in its map. -/
theorem decode_encode {i : Instr} (wf : i.wf = true) : decode (encode i) = .ok (i, []) := by
  cases i
  case undefined op => exact decode_undefined wf
  case ld_BC_d16 nn | ld_DE_d16 nn | ld_HL_d16 nn | ld_SP_d16 nn | ld_at_a16_SP nn | ld_at_a16_A nn | ld_A_at_a16 nn
      | jp_a16 nn | jp_NZ_a16 nn | jp_Z_a16 nn | jp_NC_a16 nn | jp_C_a16 nn
      | call_a16 nn | call_NZ_a16 nn | call_Z_a16 nn | call_NC_a16 nn | call_C_a16 nn =>
    exact decode_word rfl nn
  all_goals rfl

end Sys2Proof

namespace Sys2Proof.Certificates

/-- Settles O1: the encoding decodes to the instruction, and the decoder leaves over what follows it. -/
theorem decodeOfEncode : Obligations.DecodeOfEncode :=
  fun _ rest wf => decode_append (decode_encode wf) rest

/-- Settles O2: the decoder reads an opcode byte and as many operand bytes as it asks for, and these are the encoding. -/
theorem encodeOfDecode : Obligations.EncodeOfDecode := by
  intro bs i rest h
  cases bs with
  | nil => cases h
  | cons b ops =>
    obtain ⟨long, rfl, rfl⟩ := decode_cons_eq_ok.1 h
    have bounds := lengthOf_bounds b
    rw [encode_decodeAt, List.cons_append, take_getD_append_drop (by omega) (by omega)]
    exact ⟨rfl, wf_decodeAt ..⟩

/-- Settles O3: the lengths byte by byte, and three bytes are enough for any of them. -/
theorem decodingByFirstByte : Obligations.DecodingByFirstByte := by
  refine ⟨by decide +kernel, fun b0 b1 b2 => ?_, fun _ _ _ _ => decodeAt_eq_undefined_iff⟩
  obtain ⟨one, three⟩ := lengthOf_bounds b0
  exact decode_cons_eq_ok.2 ⟨three, rfl, (List.drop_cons one).symm⟩

/-- Settles O4, each word by the map that it is in. -/
theorem specWordsDecode : Obligations.SpecWordsDecode := by
  unfold Obligations.SpecWordsDecode
  decide

end Sys2Proof.Certificates
end

section
/-! PROOFS. The fetch of an instruction's bytes and the HALT bug (30_encoding.md R170, 60_exceptions.md R403). -/
namespace Sys2Proof.Machine

theorem operandAddr_of_not_haltBug {s : State} (h : s.cpu.haltBug = false) : operandAddr s = s.cpu.pc + 1 := by
  simp [operandAddr, h]

theorem operandAddr_of_haltBug {s : State} (h : s.cpu.haltBug = true) : operandAddr s = s.cpu.pc := by
  simp [operandAddr, h]

end Sys2Proof.Machine

namespace Sys2Proof.Certificates
open Machine

/-- Settles O45, by whether the HALT bug bit is set when the bytes are fetched. -/
theorem haltBugReadsByteTwice : Obligations.HaltBugReadsByteTwice := by
  intro s len _
  refine ⟨fun clear => ⟨?_, ?_⟩, fun set => ⟨?_, ?_⟩, rfl⟩
  · rw [fetchBytes, operandAddr_of_not_haltBug clear, BitVec.add_assoc]; rfl
  · simp [clear]
  · rw [fetchBytes, operandAddr_of_haltBug set]
  · simp [set]

end Sys2Proof.Certificates
end

section
/-! PROOFS. The 8-bit loads and stores (41_loads_8bit.md R200 to R218): which operation a word of the load family runs, and
each operation on the registers as they stand before the instruction. -/
namespace Sys2Proof.Machine
open Certificates (byte code8)

/-- R180: `0xFF00 | n` is the word with high byte 0xFF and low byte `n`. -/
theorem highPage_eq_mk16 (n : Byte) : highPage n = mk16 0xFF n := by revert n; decide +kernel

@[simp] theorem pair_withA (s : State) (v : Byte) : pair (withA s v) .hl = pair s .hl := rfl

@[simp] theorem pair_memWrite (s : State) (a : Word) (v : Byte) (p : Pair) : pair (memWrite s a v) p = pair s p := by
  simp only [pair, memWrite_cpu]

/-! ### Moving HL modulo 0x10000 -/

theorem add_one_eq_ofNat (v : Word) : v + 1 = BitVec.ofNat 16 (v.toNat + 1) := by
  rw [BitVec.ofNat_add, BitVec.ofNat_toNat, BitVec.setWidth_eq]; rfl

theorem add_neg_one_eq_ofNat (v : Word) : v + -1 = BitVec.ofNat 16 (v.toNat + 65535) := by
  rw [BitVec.ofNat_add, BitVec.ofNat_toNat, BitVec.setWidth_eq]; rfl

/-! ### The operations, from the state before the instruction -/

theorem ldReg_eq (y z : R8) (s : State) : ldReg y z s = .next (withCycles 4 (wr8 (advance 1 s) y (rd8 s z))) := by
  rw [ldReg, rd8_advance]; rfl

theorem ldFromHL_eq (y : R8) (s : State) :
    ldFromHL y s = .next (withCycles 8 (wr8 (advance 1 s) y (memRead s (pair s .hl)))) := by
  rw [ldFromHL, rd8_advance]; rfl

theorem ldToHL_eq (z : R8) (s : State) :
    ldToHL z s = .next (withCycles 8 (memWrite (advance 1 s) (pair s .hl) (rd8 s z))) := by
  rw [ldToHL, rd8_advance, wr8, pair_advance]; rfl

theorem ldAFrom_eq (len cycles : Nat) (addr : Word) (s : State) :
    ldAFrom len cycles addr s = .next (withCycles cycles (withA (advance len s) (memRead s addr))) := by
  rw [ldAFrom, memRead_advance]; rfl

theorem stAAt_eq (len cycles : Nat) (addr : Word) (s : State) :
    stAAt len cycles addr s = .next (withCycles cycles (memWrite (advance len s) addr s.cpu.a)) := rfl

theorem stAAtHLStep_eq (k : Word) (s : State) :
    stAAtHLStep k s
      = .next (withCycles 8 (withPair (memWrite (advance 1 s) (pair s .hl) s.cpu.a) .hl (pair s .hl + k))) := by
  simp only [stAAtHLStep, pair_memWrite, pair_advance]; rfl

theorem ldAFromHLStep_eq (k : Word) (s : State) :
    ldAFromHLStep k s
      = .next (withCycles 8 (withPair (withA (advance 1 s) (memRead s (pair s .hl))) .hl (pair s .hl + k))) := by
  simp only [ldAFromHLStep, pair_withA, pair_advance, memRead_advance]; rfl

/-- Neither a store nor a write of HL touches the flags. -/
theorem f_withPair_hl_memWrite (s : State) (a v : Word) (b : Byte) :
    (withPair (memWrite s a b) .hl v).cpu.f = s.cpu.f := by
  rw [withPair_cpu, memWrite_cpu]; rfl

/-! ### The words of the load family (R172 to R174) -/

theorem exec_ldReg (s : State) {y z : R8} (hy : y ≠ .atHL) (hz : z ≠ .atHL) (b1 b2 : Byte) :
    exec (decodeAt (byte (0x40 + 8 * code8 y + code8 z)) b1 b2) s = ldReg y z s := by
  cases y
  case atHL => exact absurd rfl hy
  all_goals
    cases z
    case atHL => exact absurd rfl hz
    all_goals rfl

theorem exec_ldImm (s : State) {y : R8} (hy : y ≠ .atHL) (n b2 : Byte) :
    exec (decodeAt (byte (0x06 + 8 * code8 y)) n b2) s = ldImm y n s := by
  cases y
  case atHL => exact absurd rfl hy
  all_goals rfl

theorem exec_ldFromHL (s : State) {y : R8} (hy : y ≠ .atHL) (b1 b2 : Byte) :
    exec (decodeAt (byte (0x46 + 8 * code8 y)) b1 b2) s = ldFromHL y s := by
  cases y
  case atHL => exact absurd rfl hy
  all_goals rfl

theorem exec_ldToHL (s : State) {z : R8} (hz : z ≠ .atHL) (b1 b2 : Byte) :
    exec (decodeAt (byte (0x70 + code8 z)) b1 b2) s = ldToHL z s := by
  cases z
  case atHL => exact absurd rfl hz
  all_goals rfl

end Sys2Proof.Machine

namespace Sys2Proof.Certificates
open Sys2Proof.Machine

/-- Settles O9: each form is the access at the old HL with HL moved by 1 or by -1. -/
theorem loadAndStoreSteppingHL : Obligations.LoadAndStoreSteppingHL := by
  intro s
  rw [← add_one_eq_ofNat, ← add_neg_one_eq_ofNat]
  exact ⟨⟨stAAtHLStep_eq 1 s, f_withPair_hl_memWrite ..⟩, ⟨stAAtHLStep_eq (-1) s, f_withPair_hl_memWrite ..⟩,
    ⟨ldAFromHLStep_eq 1 s, rfl⟩, ⟨ldAFromHLStep_eq (-1) s, rfl⟩⟩

/-- Settles O6: the words decode to the register and the immediate form of the operand table. -/
theorem loadRegisterForms : Obligations.LoadRegisterForms :=
  ⟨fun s y z b1 b2 hy hz => (exec_ldReg s hy hz b1 b2).trans (ldReg_eq y z s),
    fun s _ n b2 hy => exec_ldImm s hy n b2⟩

/-- Settles O7: HL is read before a load can overwrite half of it, and moving past the bytes leaves it. -/
theorem loadAndStoreAtHL : Obligations.LoadAndStoreAtHL :=
  ⟨fun s y b1 b2 hy => (exec_ldFromHL s hy b1 b2).trans (ldFromHL_eq y s),
    fun s z b1 b2 hz => (exec_ldToHL s hz b1 b2).trans (ldToHL_eq z s), fun _ _ => rfl⟩

/-- Settles O8: five loads and five stores of A, each at its address; those of the I/O page at `0xFF00 | n`. -/
theorem accumulatorLoadsAndStores : Obligations.AccumulatorLoadsAndStores := by
  intro s nn n
  rw [← highPage_eq_mk16, ← highPage_eq_mk16]
  exact ⟨ldAFrom_eq .., ldAFrom_eq .., ldAFrom_eq .., ldAFrom_eq .., ldAFrom_eq ..,
    stAAt_eq .., stAAt_eq .., stAAt_eq .., stAAt_eq .., stAAt_eq ..⟩

end Sys2Proof.Certificates
end

section
/-! PROOFS. The 16-bit loads and the stack instructions (42_loads_16bit_stack.md R230 to R236): the sum of SP and a signed
byte, and which operation a word of the family runs. -/
namespace Sys2Proof.Machine
open Certificates (byte codePair spFlags)

/-- Adding the sign-extended byte is adding its signed value modulo 0x10000. -/
theorem add_sext16_eq_ofInt (v : Word) (e : Byte) : v + sext16 e = BitVec.ofInt 16 (v.toNat + e.toInt) := by
  rw [BitVec.ofInt_add, BitVec.ofInt_natCast, BitVec.ofNat_toNat, BitVec.setWidth_eq]; rfl

/-- R233, R281: the model's sum, split into its word and its flags. -/
theorem addSp_eq (sp : Word) (e : Byte) : addSp sp e = (BitVec.ofInt 16 (sp.toNat + e.toInt), spFlags sp e) := by
  rw [addSp, add_sext16_eq_ofInt]; rfl

theorem exec_ld_HL_SP_e8_eq (e : Byte) (s : State) :
    exec (.ld_HL_SP_e8 e) s
      = .next (withCycles 12 (withFlags (withPair (advance 2 s) .hl (addSp s.cpu.sp e).1) (addSp s.cpu.sp e).2)) := rfl

theorem exec_add_SP_e8_eq (e : Byte) (s : State) :
    exec (.add_SP_e8 e) s
      = .next (withCycles 16 (withFlags (withSp (advance 2 s) (addSp s.cpu.sp e).1) (addSp s.cpu.sp e).2)) := rfl

/-- R175, R230: the words `01 + 16 p` load the pair `rp[p]`, low byte first. -/
theorem exec_ldPairImm (s : State) {p : Pair} (h : p ≠ .af) (lo hi : Byte) :
    exec (decodeAt (byte (0x01 + 16 * codePair p)) lo hi) s
      = .next (withCycles 12 (withPair (advance 3 s) p (mk16 hi lo))) := by
  cases p
  case af => exact absurd rfl h
  all_goals rfl

end Sys2Proof.Machine

namespace Sys2Proof.Certificates
open Sys2Proof.Machine

/-- Settles O11: both forms write the word and the flags of the one sum of SP and e. -/
theorem stackPointerOffset : Obligations.StackPointerOffset := by
  intro s e
  rw [exec_ld_HL_SP_e8_eq, exec_add_SP_e8_eq, addSp_eq]
  exact ⟨rfl, rfl⟩

/-- Settles O12: a push is its two stores from the old SP, and a pop reads at the old SP. -/
theorem pushAndPop : Obligations.PushAndPop := by
  intro s p b1 b2 hp
  constructor
  · rw [exec_push s hp, push16_eq]; rfl
  · rw [exec_pop s hp, popped, popValue]; rfl

/-- Settles O10: the four immediate forms by the pair table; the other two forms name their one instruction. -/
theorem loadWordForms : Obligations.LoadWordForms :=
  ⟨fun s _ lo hi hp => exec_ldPairImm s hp lo hi, fun _ _ => rfl, fun _ => rfl⟩

end Sys2Proof.Certificates
end

section
/-! PROOFS. The 8-bit arithmetic and logic (43_alu_8bit.md R250 to R266): each operation on numbers, the words that run it, and
the decimal results of DAA. -/
namespace Sys2Proof.Machine
open Certificates (byte code8 AccRule toNat_byte daaNat bcd daa8_flags)

/-! ### Bytes given as numbers -/

theorem byte_toNat (v : Byte) : byte v.toNat = v := by rw [byte, BitVec.ofNat_toNat, BitVec.setWidth_eq]

theorem byte_congr {m n : Nat} (h : m % 256 = n % 256) : byte m = byte n :=
  BitVec.eq_of_toNat_eq (by simpa [byte] using h)

theorem ofInt_eq_byte {i : Int} {n : Nat} (h : i % 256 = n % 256) : BitVec.ofInt 8 i = byte n :=
  BitVec.eq_of_toNat_eq (by simp [byte]; omega)

/-- The Z flag of a result, by what its being 0 says. -/
theorem beq_zero_eq_decide {v : Byte} {p : Prop} [Decidable p] (h : v = 0 ↔ p) : (v == 0) = decide p := by
  rw [Bool.beq_eq_decide_eq, decide_eq_decide, h]

theorem byte_beq_zero (n : Nat) : (byte n == 0) = decide (n % 256 = 0) :=
  beq_zero_eq_decide (by rw [← BitVec.toNat_inj, byte, BitVec.toNat_ofNat]; rfl)

/-! ### The operations of the accumulator on numbers -/

theorem add8_eq (a v : Byte) :
    add8 a v = (byte (a.toNat + v.toNat),
      { z := decide ((a.toNat + v.toNat) % 256 = 0), n := false, h := decide (15 < a.toNat % 16 + v.toNat % 16),
        c := decide (256 ≤ a.toNat + v.toNat) }) := by
  rw [← byte_beq_zero]; rfl

theorem adc8_eq (a v : Byte) (c : Bool) :
    adc8 a v c = (byte (a.toNat + v.toNat + bitNat c),
      { z := decide ((a.toNat + v.toNat + bitNat c) % 256 = 0), n := false,
        h := decide (15 < a.toNat % 16 + v.toNat % 16 + bitNat c), c := decide (256 ≤ a.toNat + v.toNat + bitNat c) }) := by
  rw [← byte_beq_zero]; rfl

@[simp] theorem bitNat_false : bitNat false = 0 := rfl

theorem bitNat_le_one (c : Bool) : bitNat c ≤ 1 := by cases c <;> decide

theorem sbc8_eq (a v : Byte) (c : Bool) :
    sbc8 a v c = (byte (a.toNat + 512 - v.toNat - bitNat c),
      { z := decide ((a.toNat + 512 - v.toNat - bitNat c) % 256 = 0), n := true,
        h := decide (a.toNat % 16 < v.toNat % 16 + bitNat c), c := decide (a.toNat < v.toNat + bitNat c) }) := by
  have hk := bitNat_le_one c
  have difference : BitVec.ofInt 8 ((a.toNat : Int) - v.toNat - bitNat c) = byte (a.toNat + 512 - v.toNat - bitNat c) :=
    ofInt_eq_byte (by omega)
  rw [← byte_beq_zero, ← difference]; rfl

/-- SUB is SBC without a borrow (R253, R254). -/
theorem sub8_eq_sbc8 (a v : Byte) : sub8 a v = sbc8 a v false := by
  simp [sub8, sbc8, bitNat]

theorem sub8_eq (a v : Byte) :
    sub8 a v = (byte (a.toNat + 256 - v.toNat),
      { z := decide (a.toNat = v.toNat), n := true, h := decide (a.toNat % 16 < v.toNat % 16),
        c := decide (a.toNat < v.toNat) }) := by
  have difference : byte (a.toNat + 512 - v.toNat - 0) = byte (a.toNat + 256 - v.toNat) := byte_congr (by omega)
  have zero : (a.toNat + 512 - v.toNat - 0) % 256 = 0 ↔ a.toNat = v.toNat := by omega
  rw [sub8_eq_sbc8, sbc8_eq, bitNat_false, difference, decide_eq_decide.mpr zero]; rfl

/-- CP leaves A and takes the flags of SUB (R258). -/
theorem cp8_eq (a v : Byte) :
    cp8 a v = (byte a.toNat,
      { z := decide (a.toNat = v.toNat), n := true, h := decide (a.toNat % 16 < v.toNat % 16),
        c := decide (a.toNat < v.toNat) }) := by
  rw [cp8, sub8_eq, byte_toNat]

theorem and8_eq (a v : Byte) :
    and8 a v = (byte (a.toNat &&& v.toNat),
      { z := decide (a.toNat &&& v.toNat = 0), n := false, h := true, c := false }) := by
  have zero : a &&& v = 0 ↔ a.toNat &&& v.toNat = 0 := by rw [← BitVec.toNat_inj, BitVec.toNat_and]; rfl
  rw [and8, beq_zero_eq_decide zero, ← BitVec.toNat_and, byte_toNat]

theorem xor8_eq (a v : Byte) :
    xor8 a v = (byte (a.toNat ^^^ v.toNat),
      { z := decide (a.toNat = v.toNat), n := false, h := false, c := false }) := by
  have zero : a ^^^ v = 0 ↔ a.toNat = v.toNat := by rw [BitVec.toNat_inj]; exact BitVec.xor_eq_zero_iff
  rw [xor8, beq_zero_eq_decide zero, ← BitVec.toNat_xor, byte_toNat]

theorem or8_eq (a v : Byte) :
    or8 a v = (byte (a.toNat ||| v.toNat),
      { z := decide (a.toNat = 0 ∧ v.toNat = 0), n := false, h := false, c := false }) := by
  have zero : a ||| v = 0 ↔ a.toNat = 0 ∧ v.toNat = 0 := by
    rw [← BitVec.toNat_inj, BitVec.toNat_or]; exact Nat.or_eq_zero_iff
  rw [or8, beq_zero_eq_decide zero, ← BitVec.toNat_or, byte_toNat]

/-! ### The words of the accumulator operations -/

/-- The operation `alu[y]` of the encodings `80 + 8 y` and `C6 + 8 y` (R250 to R258), on F, A and the operand. -/
def alu : Nat → Flags → Byte → Byte → Byte × Flags
  | 0, _ => add8
  | 1, f => (adc8 · · f.c)
  | 2, _ => sub8
  | 3, f => (sbc8 · · f.c)
  | 4, _ => and8
  | 5, _ => xor8
  | 6, _ => or8
  | _, _ => cp8

theorem exec_alu_reg (s : State) {y : Nat} (hy : y < 8) (r : R8) (b1 b2 : Byte) :
    exec (decodeAt (byte (0x80 + 8 * y + code8 r)) b1 b2) s = accReg (alu y s.cpu.f) r s := by
  interval_cases y
  all_goals cases r
  all_goals rfl

theorem exec_alu_imm (s : State) {y : Nat} (hy : y < 8) (n b2 : Byte) :
    exec (decodeAt (byte (0xC6 + 8 * y)) n b2) s = accImm (alu y s.cpu.f) n s := by
  interval_cases y
  all_goals rfl

theorem accReg_eq (op : Byte → Byte → Byte × Flags) (r : R8) (s : State) :
    accReg op r s = .next (withCycles (if r = .atHL then 8 else 4)
      (withFlags (withA (advance 1 s) (op s.cpu.a (rd8 s r)).1) (op s.cpu.a (rd8 s r)).2)) := by
  rw [accReg, rd8_advance]; rfl

theorem accImm_eq (op : Byte → Byte → Byte × Flags) (n : Byte) (s : State) :
    accImm op n s = .next (withCycles 8 (withFlags (withA (advance 2 s) (op s.cpu.a n).1) (op s.cpu.a n).2)) := rfl

/-- R250: an operation that is `f` on numbers follows the rule of `f` in its three forms. -/
theorem accRule_of_alu {y : Nat} {f : Nat → Nat → Nat → Nat × Flags} (hy : y < 8)
    (h : ∀ (fl : Flags) (a v : Byte),
      alu y fl a v = (byte (f a.toNat v.toNat (bitNat fl.c)).1, (f a.toNat v.toNat (bitNat fl.c)).2)) :
    AccRule y f := by
  intro s b1 b2
  refine ⟨fun r => ?_, ?_⟩
  · rw [exec_alu_reg s hy, accReg_eq, h]
  · rw [exec_alu_imm s hy, accImm_eq, h]

/-! ### INC, DEC and CPL -/

theorem inc8_eq (f : Flags) (v : Byte) :
    inc8 f v = (byte (v.toNat + 1),
      { z := decide (v.toNat = 255), n := false, h := decide (v.toNat % 16 = 15), c := f.c }) := by
  have sum : v + 1 = byte (v.toNat + 1) := BitVec.eq_of_toNat_eq (by simp [byte, BitVec.toNat_add])
  have zero : (v.toNat + 1) % 256 = 0 ↔ v.toNat = 255 := by omega
  rw [← decide_eq_decide.mpr zero, ← byte_beq_zero, ← sum]; rfl

theorem dec8_eq (f : Flags) (v : Byte) :
    dec8 f v = (byte (v.toNat + 255),
      { z := decide (v.toNat = 1), n := true, h := decide (v.toNat % 16 = 0), c := f.c }) := by
  have difference : v - 1 = byte (v.toNat + 255) :=
    BitVec.eq_of_toNat_eq (by simp [byte, BitVec.toNat_sub, Nat.add_comm])
  have zero : (v.toNat + 255) % 256 = 0 ↔ v.toNat = 1 := by omega
  rw [← decide_eq_decide.mpr zero, ← byte_beq_zero, ← difference]; rfl

theorem exec_inc (s : State) (r : R8) (b1 b2 : Byte) :
    exec (decodeAt (byte (0x04 + 8 * code8 r)) b1 b2) s = stepReg inc8 r s := by cases r <;> rfl

theorem exec_dec (s : State) (r : R8) (b1 b2 : Byte) :
    exec (decodeAt (byte (0x05 + 8 * code8 r)) b1 b2) s = stepReg dec8 r s := by cases r <;> rfl

theorem stepReg_eq (op : Flags → Byte → Byte × Flags) (r : R8) (s : State) :
    stepReg op r s = .next (withCycles (if r = .atHL then 12 else 4)
      (withFlags (wr8 (advance 1 s) r (op s.cpu.f (rd8 s r)).1) (op s.cpu.f (rd8 s r)).2)) := by
  rw [stepReg, rd8_advance]; rfl

theorem not_eq_byte (v : Byte) : ~~~v = byte (255 - v.toNat) :=
  BitVec.eq_of_toNat_eq (by rw [BitVec.toNat_not, byte, BitVec.toNat_ofNat]; omega)

/-! ### DAA -/

theorem exec_daa_eq (s : State) :
    exec .daa s = .next (withCycles 4
      (withFlags (withA (advance 1 s) (daa8 s.cpu.f s.cpu.a).1) (daa8 s.cpu.f s.cpu.a).2)) := rfl

/-- The result of DAA on numbers: the second test of an addition sees the low nibble of the old A (R263). -/
theorem daa8_fst (f : Flags) (a : Byte) : (daa8 f a).1 = byte (daaNat f.n f.h f.c a.toNat).1 := by
  cases hn : f.n
  case true =>
    simp only [daa8, daaNat, hn, if_true]
    split_ifs <;> apply BitVec.eq_of_toNat_eq <;> simp [byte, BitVec.toNat_sub] <;> omega
  case false =>
    have low : (if f.c || decide (a.toNat > 0x99) then a + 0x60 else a).toNat % 16 = a.toNat % 16 := by
      split_ifs
      · rw [BitVec.toNat_add]; change (a.toNat + 0x60) % 256 % 16 = _; omega
      · rfl
    simp only [daa8, daaNat, hn, Bool.false_eq_true, if_false, low]
    split_ifs <;> apply BitVec.eq_of_toNat_eq <;> simp_all [byte, BitVec.toNat_add]

theorem daa8_c (f : Flags) (a : Byte) : (daa8 f a).2.c = (daaNat f.n f.h f.c a.toNat).2 := by
  cases hn : f.n <;> simp [daa8, daaNat, hn]

theorem daa8_z (f : Flags) (a : Byte) : (daa8 f a).2.z = ((daa8 f a).1 == 0) := by
  cases hn : f.n <;> simp [daa8, hn]

theorem daa8_eq (f : Flags) (a : Byte) :
    daa8 f a = (byte (daaNat f.n f.h f.c a.toNat).1,
      { z := decide ((daaNat f.n f.h f.c a.toNat).1 % 256 = 0), n := f.n, h := false,
        c := (daaNat f.n f.h f.c a.toNat).2 }) := by
  rw [← byte_beq_zero, ← daa8_fst, ← daa8_c, ← daa8_z, ← daa8_flags]

/-! ### The decimal results of DAA -/

theorem toNat_bcd {x : Nat} (hx : x < 100) : (bcd x).toNat = x / 10 * 16 + x % 10 := toNat_byte (by omega)

section
variable {x y k a v z : Nat} (hx : x < 100) (hy : y < 100) (hk : k ≤ 1) (ha : a = x / 10 * 16 + x % 10)
  (hv : v = y / 10 * 16 + y % 10)
include hk ha hv

/-- After a difference of digits, H and C are the decimal borrows of the ones and of the tens. -/
theorem daaNat_difference : daaNat true (a % 16 < v % 16 + k) (a < v + k) ((a + 512 - v - k) % 256)
    = ((a + 512 - v - k) % 256 + 512 - (if x < y + k then 0x60 else 0) - (if x % 10 < y % 10 + k then 0x06 else 0),
      decide (x < y + k)) := by
  have ones : a % 16 < v % 16 + k ↔ x % 10 < y % 10 + k := by omega
  have tens : a < v + k ↔ x < y + k := by omega
  simp only [daaNat, if_true, ones, tens, decide_eq_true_eq]

include hx hy

/-- After a sum of digits `a + v + k`, the tests of DAA are the decimal carries out of the ones and out of the tens. -/
theorem daaNat_sum : daaNat false (15 < a % 16 + v % 16 + k) (256 ≤ a + v + k) ((a + v + k) % 256)
    = ((a + v + k) % 256 + (if 100 ≤ x + y + k then 0x60 else 0) + (if 10 ≤ x % 10 + y % 10 + k then 0x06 else 0),
      decide (100 ≤ x + y + k)) := by
  have ones : (15 < a % 16 + v % 16 + k ∨ 9 < (a + v + k) % 256 % 16) ↔ 10 ≤ x % 10 + y % 10 + k := by omega
  have tens : (256 ≤ a + v + k ∨ 0x99 < (a + v + k) % 256) ↔ 100 ≤ x + y + k := by omega
  simp only [daaNat, Bool.false_eq_true, if_false, ← Bool.decide_or, ones, tens, decide_eq_true_eq]

/-- Raising each digit that carries by 6 makes the digits of the sum decimal. -/
theorem sum_adjusted (hz : z = (x + y + k) % 100) :
    ((a + v + k) % 256 + (if 100 ≤ x + y + k then 0x60 else 0) + (if 10 ≤ x % 10 + y % 10 + k then 0x06 else 0)) % 256
      = z / 10 * 16 + z % 10 := by
  have ones : z % 10 = x % 10 + y % 10 + k - (if 10 ≤ x % 10 + y % 10 + k then 10 else 0) := by split_ifs <;> omega
  have carry : z = x + y + k - (if 100 ≤ x + y + k then 100 else 0) := by split_ifs <;> omega
  clear hz
  split_ifs at * <;> omega

/-- Lowering each digit that borrows by 6 makes the digits of the difference decimal. -/
theorem difference_adjusted (hz : z = (x + 200 - y - k) % 100) :
    ((a + 512 - v - k) % 256 + 512 - (if x < y + k then 0x60 else 0) - (if x % 10 < y % 10 + k then 0x06 else 0)) % 256
      = z / 10 * 16 + z % 10 := by
  have ones : z % 10 = x % 10 + (if x % 10 < y % 10 + k then 10 else 0) - (y % 10 + k) := by split_ifs <;> omega
  have borrow : z = x + (if x < y + k then 100 else 0) - (y + k) := by split_ifs <;> omega
  clear hz
  split_ifs at * <;> omega

end

/-- R252 with R263: DAA after ADC of two decimal numbers. -/
theorem daa8_adc8_bcd {x y : Nat} (hx : x < 100) (hy : y < 100) (c : Bool) :
    let r := adc8 (bcd x) (bcd y) c
    (daa8 r.2 r.1).1 = bcd ((x + y + bitNat c) % 100) ∧ (daa8 r.2 r.1).2.c = decide (100 ≤ x + y + bitNat c) := by
  have hk := bitNat_le_one c
  simp only [adc8_eq, daa8_eq, byte, BitVec.toNat_ofNat]
  rw [daaNat_sum hx hy hk (toNat_bcd hx) (toNat_bcd hy)]
  exact ⟨byte_congr ((sum_adjusted hx hy hk (toNat_bcd hx) (toNat_bcd hy) rfl).trans (by omega)), rfl⟩

/-- R254 with R263: DAA after SBC of two decimal numbers. -/
theorem daa8_sbc8_bcd {x y : Nat} (hx : x < 100) (hy : y < 100) (c : Bool) :
    let r := sbc8 (bcd x) (bcd y) c
    (daa8 r.2 r.1).1 = bcd ((x + 200 - y - bitNat c) % 100) ∧ (daa8 r.2 r.1).2.c = decide (x < y + bitNat c) := by
  have hk := bitNat_le_one c
  simp only [sbc8_eq, daa8_eq, byte, BitVec.toNat_ofNat]
  rw [daaNat_difference hk (toNat_bcd hx) (toNat_bcd hy)]
  exact ⟨byte_congr ((difference_adjusted hx hy hk (toNat_bcd hx) (toNat_bcd hy) rfl).trans (by omega)), rfl⟩

/-- An immediate form and then DAA leave what DAA makes of the operation's result and flags. -/
theorem daa_after_accImm {op : Byte → Byte → Byte × Flags} {n A : Byte} {c : Bool} {s t u : State}
    (h : accImm op n s = .next t) (h' : exec .daa t = .next u)
    (adjusted : (daa8 (op s.cpu.a n).2 (op s.cpu.a n).1).1 = A ∧ (daa8 (op s.cpu.a n).2 (op s.cpu.a n).1).2.c = c) :
    u.cpu.a = A ∧ u.cpu.f.c = c := by
  cases h; cases h'; exact adjusted

end Sys2Proof.Machine

namespace Sys2Proof.Certificates
open Sys2Proof.Machine

/-- Settles O14: the sums of the model are the rule's, on numbers. -/
theorem addAndAdc : Obligations.AddAndAdc :=
  ⟨accRule_of_alu (by decide) fun _ => add8_eq, accRule_of_alu (by decide) fun f a v => adc8_eq a v f.c⟩

/-- Settles O15: a difference modulo 256 is taken from a multiple of 256 high enough; CP takes the flags only. -/
theorem subSbcAndCp : Obligations.SubSbcAndCp :=
  ⟨accRule_of_alu (by decide) fun _ => sub8_eq, accRule_of_alu (by decide) fun f a v => sbc8_eq a v f.c,
    accRule_of_alu (by decide) fun _ => cp8_eq⟩

/-- Settles O16: the bitwise operations of bytes are those of their numbers. -/
theorem andXorOr : Obligations.AndXorOr :=
  ⟨accRule_of_alu (by decide) fun _ => and8_eq, accRule_of_alu (by decide) fun _ => xor8_eq,
    accRule_of_alu (by decide) fun _ => or8_eq⟩

/-- Settles O17: both read the operand of the state before, write it back and keep C. -/
theorem incAndDec : Obligations.IncAndDec := by
  intro s r b1 b2
  rw [exec_inc, exec_dec, stepReg_eq, stepReg_eq, inc8_eq, dec8_eq]
  exact ⟨rfl, rfl⟩

/-- Settles O18: DAA is its rule on numbers. -/
theorem daaRule : Obligations.DaaRule := by
  intro s
  rw [exec_daa_eq, daa8_eq]

/-- Settles O19: DAA adjusts what the four immediate forms leave; ADD and SUB are ADC and SBC without a carry. -/
theorem daaGivesDecimalResult : Obligations.DaaGivesDecimalResult := by
  intro s t u x y hx hy ha
  have sum := daa8_adc8_bcd hx hy
  have difference := daa8_sbc8_bcd hx hy
  have noBorrow := difference false
  have modulus : (x + 200 - y - 0) % 100 = (x + 100 - y) % 100 := by omega
  rw [← sub8_eq_sbc8, bitNat_false, modulus] at noBorrow
  rw [← ha] at sum difference noBorrow
  exact ⟨fun h h' => daa_after_accImm (op := add8) h h' (sum false),
    fun h h' => daa_after_accImm (op := (adc8 · · s.cpu.f.c)) h h' (sum s.cpu.f.c),
    fun h h' => daa_after_accImm (op := sub8) h h' noBorrow,
    fun h h' => daa_after_accImm (op := (sbc8 · · s.cpu.f.c)) h h' (difference s.cpu.f.c)⟩

/-- Settles O20: the complement is 255 - A; the other two write flags only. -/
theorem cplScfCcf : Obligations.CplScfCcf := by
  intro s
  rw [← not_eq_byte]
  exact ⟨rfl, rfl, rfl⟩

end Sys2Proof.Certificates
end

section
/-! PROOFS. The 16-bit arithmetic (44_alu_16bit.md R280, R282, R283): the sum on numbers, and which operation a word of the
family runs. -/
namespace Sys2Proof.Machine
open Certificates (byte codePair)

/-- R280: the sum modulo 0x10000 and its carries out of bits 11 and 15; Z is kept. -/
theorem add16_eq (f : Flags) (x y : Word) :
    add16 f x y = (BitVec.ofNat 16 ((x.toNat + y.toNat) % 65536),
      { z := f.z, n := false, h := decide (4095 < x.toNat % 4096 + y.toNat % 4096),
        c := decide (65536 ≤ x.toNat + y.toNat) }) := by
  have sum : BitVec.ofNat 16 ((x.toNat + y.toNat) % 65536) = BitVec.ofNat 16 (x.toNat + y.toNat) :=
    BitVec.eq_of_toNat_eq (by rw [BitVec.toNat_ofNat, BitVec.toNat_ofNat, Nat.mod_mod])
  rw [sum]; rfl

theorem addHL_eq (p : Pair) (s : State) :
    addHL p s = .next (withCycles 8 (withFlags (withPair (advance 1 s) .hl (add16 s.cpu.f (pair s .hl) (pair s p)).1)
      (add16 s.cpu.f (pair s .hl) (pair s p)).2)) := rfl

theorem stepPair_eq (k : Word) (p : Pair) (s : State) :
    stepPair k p s = .next (withCycles 8 (withPair (advance 1 s) p (pair s p + k))) := rfl

/-! ### The words of the family -/

/-- R175, R280, R282, R283: the words `09 + 16 p`, `03 + 16 p` and `0B + 16 p` run their operation on the pair `rp[p]`. -/
theorem exec_wordArithmetic (s : State) {p : Pair} (h : p ≠ .af) (b1 b2 : Byte) :
    exec (decodeAt (byte (0x09 + 16 * codePair p)) b1 b2) s = addHL p s
    ∧ exec (decodeAt (byte (0x03 + 16 * codePair p)) b1 b2) s = stepPair 1 p s
    ∧ exec (decodeAt (byte (0x0B + 16 * codePair p)) b1 b2) s = stepPair (-1) p s := by
  cases p
  case af => exact absurd rfl h
  all_goals exact ⟨rfl, rfl, rfl⟩

end Sys2Proof.Machine

namespace Sys2Proof.Certificates
open Sys2Proof.Machine

/-- Settles O21: each word by the pair table; INC and DEC add 1 and -1 to the pair modulo 0x10000. -/
theorem wordArithmetic : Obligations.WordArithmetic := by
  intro s p b1 b2 hp
  obtain ⟨add, inc, dec⟩ := exec_wordArithmetic s hp b1 b2
  rw [add, inc, dec, addHL_eq, add16_eq, stepPair_eq, stepPair_eq, add_one_eq_ofNat, add_neg_one_eq_ofNat]
  exact ⟨rfl, rfl, rfl⟩

end Sys2Proof.Certificates
end

section
/-! PROOFS. The rotates, shifts and bit operations (45_rotate_shift_bit.md R290 to R305): each operation on numbers, and the
words that run it. -/
namespace Sys2Proof.Machine
open Certificates (byte code8 RotRule)

/-! ### One bit of a byte as a number -/

theorem bitNat_eq_toNat (c : Bool) : bitNat c = c.toNat := by cases c <;> rfl

theorem toNat_bitByte (c : Bool) : (bitByte c).toNat = bitNat c := by cases c <;> rfl

theorem getLsbD_eq_decide (v : Byte) (b : Nat) : v.getLsbD b = decide (v.toNat / 2 ^ b % 2 = 1) := by
  rw [← BitVec.testBit_toNat, Nat.testBit_eq_decide_div_mod_eq]

theorem bitNat_getLsbD (v : Byte) (b : Nat) : bitNat (v.getLsbD b) = v.toNat / 2 ^ b % 2 := by
  rw [bitNat_eq_toNat, ← BitVec.testBit_toNat, Nat.toNat_testBit]

/-- Bit 7 as a comparison: there is no higher bit to mask off. -/
theorem getLsbD_seven_eq_decide (v : Byte) : v.getLsbD 7 = decide (128 ≤ v.toNat) := by
  rw [getLsbD_eq_decide, decide_eq_decide]; omega

theorem bitNat_getLsbD_seven (v : Byte) : bitNat (v.getLsbD 7) = v.toNat / 128 := by
  rw [bitNat_getLsbD]; omega

theorem getLsbD_zero_eq_decide (v : Byte) : v.getLsbD 0 = decide (v.toNat % 2 = 1) := by
  rw [getLsbD_eq_decide, Nat.pow_zero, Nat.div_one]

theorem bitNat_getLsbD_zero (v : Byte) : bitNat (v.getLsbD 0) = v.toNat % 2 := by
  rw [bitNat_getLsbD, Nat.pow_zero, Nat.div_one]

/-! ### The rotates and shifts on numbers -/

/-- The result and the flags of a CB rotate or shift, from the result as a number and the bit shifted out. -/
def rotResult (x : Nat × Bool) : Byte × Flags :=
  (byte x.1, { z := decide (x.1 % 256 = 0), n := false, h := false, c := x.2 })

theorem rotFlags_eq {w : Byte} {n : Nat} (h : w = byte n) (c : Bool) : (w, rotFlags w c) = rotResult (n, c) := by
  rw [h, rotFlags, byte_beq_zero]; rfl

/-- Bits moved up and bits below them do not meet, so OR is a sum. -/
theorem shiftLeft_or_eq_byte (x : Byte) {y : Byte} {k : Nat} (h : y.toNat < 2 ^ k) :
    x <<< k ||| y = byte (x.toNat * 2 ^ k + y.toNat) := by
  have shifted : (x <<< k ||| y).toNat = (x.toNat <<< k ||| y.toNat) % 2 ^ 8 := by
    rw [BitVec.toNat_or, BitVec.toNat_shiftLeft, Nat.or_mod_two_pow, Nat.mod_eq_of_lt y.isLt]
  apply BitVec.eq_of_toNat_eq
  rw [shifted, ← Nat.shiftLeft_add_eq_or_of_lt h, Nat.shiftLeft_eq]
  rfl

theorem toNat_ushiftRight_eq_div (v : Byte) (k : Nat) : (v >>> k).toNat = v.toNat / 2 ^ k := by
  rw [BitVec.toNat_ushiftRight, Nat.shiftRight_eq_div_pow]

theorem rl8_eq (v : Byte) (c : Bool) : rl8 v c = rotResult (2 * v.toNat + bitNat c, decide (128 ≤ v.toNat)) := by
  have below : (bitByte c).toNat < 2 ^ 1 := by cases c <;> decide
  have result : v <<< 1 ||| bitByte c = byte (2 * v.toNat + bitNat c) := by
    rw [shiftLeft_or_eq_byte v below, toNat_bitByte, Nat.mul_comm]; rfl
  rw [← getLsbD_seven_eq_decide, ← rotFlags_eq result]; rfl

theorem rr8_eq (v : Byte) (c : Bool) : rr8 v c = rotResult (v.toNat / 2 + 128 * bitNat c, decide (v.toNat % 2 = 1)) := by
  have half : (v >>> 1).toNat = v.toNat / 2 := toNat_ushiftRight_eq_div v 1
  have below : (v >>> 1).toNat < 2 ^ 7 := by omega
  have result : v >>> 1 ||| bitByte c <<< 7 = byte (v.toNat / 2 + 128 * bitNat c) := by
    rw [BitVec.or_comm, shiftLeft_or_eq_byte _ below, toNat_bitByte, half, Nat.add_comm, Nat.mul_comm]; rfl
  rw [← getLsbD_zero_eq_decide, ← rotFlags_eq result]; rfl

/-- RLC is RL with bit 7 as the carry in (R295, R297). -/
theorem rlc8_eq (v : Byte) : rlc8 v = rotResult (2 * v.toNat + v.toNat / 128, decide (128 ≤ v.toNat)) := by
  have rotated : rlc8 v = rl8 v (v.getLsbD 7) := rfl
  rw [rotated, rl8_eq, bitNat_getLsbD_seven]

/-- RRC is RR with bit 0 as the carry in (R296, R298). -/
theorem rrc8_eq (v : Byte) : rrc8 v = rotResult (v.toNat / 2 + 128 * (v.toNat % 2), decide (v.toNat % 2 = 1)) := by
  have rotated : rrc8 v = rr8 v (v.getLsbD 0) := rfl
  rw [rotated, rr8_eq, bitNat_getLsbD_zero]

/-- SLA is RL without a carry in (R299). -/
theorem sla8_eq (v : Byte) : sla8 v = rotResult (2 * v.toNat, decide (128 ≤ v.toNat)) := by
  have noCarry : sla8 v = rl8 v false := by simp [sla8, rl8, bitByte]
  rw [noCarry, rl8_eq]; rfl

/-- SRL is RR without a carry in (R302). -/
theorem srl8_eq (v : Byte) : srl8 v = rotResult (v.toNat / 2, decide (v.toNat % 2 = 1)) := by
  have noCarry : srl8 v = rr8 v false := by simp [srl8, rr8, bitByte]
  rw [noCarry, rr8_eq]; rfl

/-- SRA is RR with bit 7, which it keeps, as the carry in (R300). -/
theorem sra8_eq (v : Byte) :
    sra8 v = rotResult (v.toNat / 2 + 128 * (v.toNat / 128), decide (v.toNat % 2 = 1)) := by
  have sign : v &&& BitVec.twoPow 8 7 = bitByte (v.getLsbD 7) <<< 7 := by
    rw [BitVec.and_twoPow]
    cases v.getLsbD 7 <;> rfl
  have rotated : sra8 v = rr8 v (v.getLsbD 7) := by rw [rr8, ← sign]; rfl
  rw [rotated, rr8_eq, bitNat_getLsbD_seven]

theorem swap8_eq (v : Byte) : swap8 v = rotResult (16 * (v.toNat % 16) + v.toNat / 16, false) := by
  have high : (v >>> 4).toNat = v.toNat / 16 := toNat_ushiftRight_eq_div v 4
  have below : (v >>> 4).toNat < 2 ^ 4 := by omega
  apply rotFlags_eq
  rw [shiftLeft_or_eq_byte v below, high]
  exact byte_congr (by omega)

/-! ### The words of the rotates and shifts -/

/-- R290 to R293: the accumulator rotates take the result and C of the rotate and clear Z. -/
theorem rotA_eq {r : Byte × Flags} {x : Nat × Bool} (h : r = rotResult x) (s : State) :
    rotA r s = .next (withCycles 4
      (withFlags (withA (advance 1 s) (byte x.1)) { z := false, n := false, h := false, c := x.2 })) := by
  rw [h]; rfl

/-- The operation `rot[y]` of the words `CB 8 y + z` (R294 to R302), on the carry flag and the operand. -/
def rot : Nat → Bool → Byte → Byte × Flags
  | 0, _ => rlc8
  | 1, _ => rrc8
  | 2, c => (rl8 · c)
  | 3, c => (rr8 · c)
  | 4, _ => sla8
  | 5, _ => sra8
  | 6, _ => swap8
  | _, _ => srl8

theorem exec_rot (s : State) {y : Nat} (hy : y < 8) (r : R8) (b2 : Byte) :
    exec (decodeAt 0xCB (byte (8 * y + code8 r)) b2) s = cbRot (rot y s.cpu.f.c) r s := by
  interval_cases y
  all_goals cases r
  all_goals rfl

theorem cbRot_eq (op : Byte → Byte × Flags) (r : R8) (s : State) :
    cbRot op r s = .next (withCycles (if r = .atHL then 16 else 8)
      (withFlags (wr8 (advance 2 s) r (op (rd8 s r)).1) (op (rd8 s r)).2)) := by
  rw [cbRot, rd8_advance]; rfl

/-- R294: an operation that is `f` on numbers follows the rule of `f` for every operand. -/
theorem rotRule_of_rot {y : Nat} {f : Nat → Nat → Nat × Bool} (hy : y < 8)
    (h : ∀ (c : Bool) (v : Byte), rot y c v = rotResult (f v.toNat (bitNat c))) : RotRule y f := by
  intro s r b2
  rw [exec_rot s hy, cbRot_eq, h]; rfl

/-! ### BIT, RES and SET on numbers -/

theorem bitFlags_eq (f : Flags) (b : Nat) (v : Byte) :
    bitFlags f b v = { z := decide (v.toNat / 2 ^ b % 2 = 0), n := false, h := true, c := f.c } := by
  have clear : (!v.getLsbD b) = decide (v.toNat / 2 ^ b % 2 = 0) := by
    rw [getLsbD_eq_decide, ← decide_not, decide_eq_decide, Nat.mod_two_not_eq_one]
  rw [← clear]; rfl

theorem resBit_and_twoPow (b : Nat) (v : Byte) : resBit b v &&& BitVec.twoPow 8 b = 0#8 := by
  rw [resBit, ← BitVec.twoPow_eq, BitVec.and_assoc, BitVec.not_and_self]; exact BitVec.and_zero

theorem resBit_or_and_twoPow (b : Nat) (v : Byte) : resBit b v ||| (v &&& BitVec.twoPow 8 b) = v := by
  rw [resBit, ← BitVec.twoPow_eq, ← BitVec.and_or_distrib_left, BitVec.not_or_self, BitVec.and_allOnes]

theorem setBit_eq_resBit_or (b : Nat) (v : Byte) : setBit b v = resBit b v ||| BitVec.twoPow 8 b := by
  rw [setBit, resBit, ← BitVec.twoPow_eq]
  ext i
  simp [Bool.or_and_distrib_right]

section
variable {b : Nat} (hb : b < 8) (v : Byte)
include hb

theorem toNat_and_twoPow : (v &&& BitVec.twoPow 8 b).toNat = v.toNat / 2 ^ b % 2 * 2 ^ b := by
  rw [BitVec.and_twoPow, ← bitNat_getLsbD]
  cases v.getLsbD b
  · simp
  · simp [bitNat, BitVec.toNat_twoPow_of_lt hb]

/-- A byte is what RES leaves of it and the bit that RES takes away. -/
theorem toNat_eq_resBit_add : v.toNat = (resBit b v).toNat + v.toNat / 2 ^ b % 2 * 2 ^ b := by
  have disjoint : resBit b v &&& (v &&& BitVec.twoPow 8 b) = 0#8 := by
    rw [BitVec.and_comm v, ← BitVec.and_assoc, resBit_and_twoPow, BitVec.zero_and]
  rw [← toNat_and_twoPow hb, ← BitVec.toNat_add_of_and_eq_zero disjoint,
    BitVec.add_eq_or_of_and_eq_zero _ _ disjoint, resBit_or_and_twoPow]

/-- SET puts the bit in that RES takes away. -/
theorem toNat_setBit : (setBit b v).toNat = (resBit b v).toNat + 2 ^ b := by
  have disjoint := resBit_and_twoPow b v
  rw [setBit_eq_resBit_or, ← BitVec.add_eq_or_of_and_eq_zero _ _ disjoint, BitVec.toNat_add_of_and_eq_zero disjoint,
    BitVec.toNat_twoPow_of_lt hb]

theorem resBit_eq : resBit b v = byte (v.toNat - v.toNat / 2 ^ b % 2 * 2 ^ b) := by
  rw [Nat.sub_eq_of_eq_add (toNat_eq_resBit_add hb v), byte_toNat]

theorem setBit_eq : setBit b v = byte (v.toNat + (1 - v.toNat / 2 ^ b % 2) * 2 ^ b) := by
  have parts := toNat_eq_resBit_add hb v
  have value : (setBit b v).toNat = v.toNat + (1 - v.toNat / 2 ^ b % 2) * 2 ^ b := by
    rw [toNat_setBit hb]
    obtain clear | set := Nat.mod_two_eq_zero_or_one (v.toNat / 2 ^ b)
    · rw [clear] at parts ⊢; omega
    · rw [set] at parts ⊢; omega
  rw [← value, byte_toNat]

end

/-! ### The words of BIT, RES and SET -/

/-- R182, R303 to R305: the words `CB 40 + 8 b + z`, `CB 80 + 8 b + z` and `CB C0 + 8 b + z` run their operation with bit `b`
on the operand `r8[z]`. -/
theorem exec_bitResSet (s : State) {b : Nat} (hb : b < 8) (r : R8) (b2 : Byte) :
    exec (decodeAt 0xCB (byte (0x40 + 8 * b + code8 r)) b2) s = cbBit b r s
    ∧ exec (decodeAt 0xCB (byte (0x80 + 8 * b + code8 r)) b2) s = cbWrite (resBit b) r s
    ∧ exec (decodeAt 0xCB (byte (0xC0 + 8 * b + code8 r)) b2) s = cbWrite (setBit b) r s := by
  interval_cases b
  all_goals cases r
  all_goals exact ⟨rfl, rfl, rfl⟩

theorem cbBit_eq (b : Nat) (r : R8) (s : State) :
    cbBit b r s = .next (withCycles (if r = .atHL then 12 else 8)
      (withFlags (advance 2 s) (bitFlags s.cpu.f b (rd8 s r)))) := by
  rw [cbBit, rd8_advance]; rfl

theorem cbWrite_eq (op : Byte → Byte) (r : R8) (s : State) :
    cbWrite op r s = .next (withCycles (if r = .atHL then 16 else 8) (wr8 (advance 2 s) r (op (rd8 s r)))) := by
  rw [cbWrite, rd8_advance]; rfl

end Sys2Proof.Machine

namespace Sys2Proof.Certificates
open Sys2Proof.Machine

/-- Settles O23: each of the eight operations is its rule on numbers; all but SWAP are RL or RR with their own carry in. -/
theorem cbRotatesAndShifts : Obligations.CbRotatesAndShifts :=
  ⟨rotRule_of_rot (by decide) fun _ => rlc8_eq, rotRule_of_rot (by decide) fun _ => rrc8_eq,
    rotRule_of_rot (by decide) fun c v => rl8_eq v c, rotRule_of_rot (by decide) fun c v => rr8_eq v c,
    rotRule_of_rot (by decide) fun _ => sla8_eq, rotRule_of_rot (by decide) fun _ => sra8_eq,
    rotRule_of_rot (by decide) fun _ => swap8_eq, rotRule_of_rot (by decide) fun _ => srl8_eq⟩

/-- Settles O22: the four rotates of A are RLC, RRC, RL and RR of it with Z cleared. -/
theorem accumulatorRotates : Obligations.AccumulatorRotates := by
  intro s
  exact ⟨rotA_eq (rlc8_eq s.cpu.a) s, rotA_eq (rrc8_eq s.cpu.a) s, rotA_eq (rl8_eq s.cpu.a s.cpu.f.c) s,
    rotA_eq (rr8_eq s.cpu.a s.cpu.f.c) s⟩

/-- Settles O24: BIT reads the bit; RES and SET take it out of the operand or put it in, as a difference or a sum. -/
theorem bitResAndSet : Obligations.BitResAndSet := by
  intro s r b b2 hb
  obtain ⟨bit, res, set⟩ := exec_bitResSet s hb r b2
  rw [bit, res, set, cbBit_eq, bitFlags_eq, cbWrite_eq, resBit_eq hb, cbWrite_eq, setBit_eq hb]
  exact ⟨rfl, rfl, rfl⟩

end Sys2Proof.Certificates
end

section
/-! PROOFS. Jumps, calls and returns (46_control_transfer.md R320 to R331): what each transfer does from the fetched
instruction, and which transfer a word of the family runs. -/
namespace Sys2Proof.Machine
open Certificates (byte codeCond condition condition_iff relative called returned)

/-! ### The transfers from a fetched instruction -/

/-- R324: a relative jump goes to the signed displacement from the address after it. -/
theorem jumpBy_advance (e : Byte) (s : State) : jumpBy e (advance 2 s) = withPc (advance 2 s) (relative s e) := by
  rw [jumpBy, add_sext16_eq_ofInt, relative]

/-- R326: the return address goes to the two bytes below the old SP. -/
theorem callTo_advance (len : Nat) (target : Word) (s : State) : callTo target (advance len s) = called len target s := by
  rw [callTo, push16_eq, called, advance_cpu]

/-- R328: PC is read at the old SP. -/
theorem returnTo_advance (s : State) : returnTo (advance 1 s) = returned s := by
  rw [returnTo, popped, popValue, memRead_advance, memRead_advance, returned, advance_cpu]

/-- R330: RETI is RET with IME set at once. -/
theorem returnFromInterrupt_advance (s : State) :
    returnFromInterrupt (advance 1 s) = { returned s with cpu := { (returned s).cpu with ime := true } } := by
  rw [← returnTo_advance]; rfl

/-! ### The conditional words -/

/-- The two ways of a conditional instruction, by the condition of R320. -/
theorem taken_and_notTaken {k : Cond} {f : Flags} {answer taken notTaken : Answer}
    (h : answer = if k.holds f then taken else notTaken) :
    (condition k f → answer = taken) ∧ (¬ condition k f → answer = notTaken) := by
  rw [condition_iff]
  exact ⟨fun holds => h.trans (if_pos holds), fun fails => h.trans (if_neg fails)⟩

section
variable (k : Cond) (b1 b2 : Byte) (s : State)

/-- R177, R322: the words `C2 + 8 k`. -/
theorem exec_jpCond :
    exec (decodeAt (byte (0xC2 + 8 * codeCond k)) b1 b2) s
      = if k.holds s.cpu.f then .next (withCycles 16 (withPc (advance 3 s) (mk16 b2 b1)))
        else .next (withCycles 12 (advance 3 s)) := by
  cases k <;> rfl

/-- R177, R325: the words `20 + 8 k`. -/
theorem exec_jrCond :
    exec (decodeAt (byte (0x20 + 8 * codeCond k)) b1 b2) s
      = if k.holds s.cpu.f then .next (withCycles 12 (withPc (advance 2 s) (relative s b1)))
        else .next (withCycles 8 (advance 2 s)) := by
  rw [← jumpBy_advance]
  cases k <;> rfl

/-- R177, R327: the words `C4 + 8 k`. -/
theorem exec_callCond :
    exec (decodeAt (byte (0xC4 + 8 * codeCond k)) b1 b2) s
      = if k.holds s.cpu.f then .next (withCycles 24 (called 3 (mk16 b2 b1) s))
        else .next (withCycles 12 (advance 3 s)) := by
  rw [← callTo_advance]
  cases k <;> rfl

/-- R177, R329: the words `C0 + 8 k`. -/
theorem exec_retCond :
    exec (decodeAt (byte (0xC0 + 8 * codeCond k)) b1 b2) s
      = if k.holds s.cpu.f then .next (withCycles 20 (returned s)) else .next (withCycles 8 (advance 1 s)) := by
  rw [← returnTo_advance]
  cases k <;> rfl

end

/-! ### The unconditional words -/

theorem exec_jr_e8_eq (e : Byte) (s : State) :
    exec (.jr_e8 e) s = .next (withCycles 12 (withPc (advance 2 s) (relative s e))) := by
  rw [← jumpBy_advance]; rfl

theorem exec_call_a16_eq (nn : Word) (s : State) : exec (.call_a16 nn) s = .next (withCycles 24 (called 3 nn s)) := by
  rw [← callTo_advance]; rfl

theorem exec_ret_eq (s : State) : exec .ret s = .next (withCycles 16 (returned s)) := by
  rw [← returnTo_advance]; rfl

theorem exec_reti_eq (s : State) :
    exec .reti s = .next (withCycles 16 { returned s with cpu := { (returned s).cpu with ime := true } }) := by
  rw [← returnFromInterrupt_advance]; rfl

/-- R331: the words `C7 + 8 y` call the address `8 y`. -/
theorem exec_rst {y : Nat} (h : y < 8) (b1 b2 : Byte) (s : State) :
    exec (decodeAt (byte (0xC7 + 8 * y)) b1 b2) s = .next (withCycles 16 (called 1 (BitVec.ofNat 16 (8 * y)) s)) := by
  rw [← callTo_advance]
  interval_cases y <;> rfl

end Sys2Proof.Machine

namespace Sys2Proof.Certificates
open Sys2Proof.Machine

/-- Settles O25: the conditional words by their condition, the relative ones by the signed sum. -/
theorem jumps : Obligations.Jumps := by
  intro s k lo hi
  obtain ⟨jp, jpNot⟩ := taken_and_notTaken (exec_jpCond k lo hi s)
  obtain ⟨jr, jrNot⟩ := taken_and_notTaken (exec_jrCond k lo hi s)
  exact ⟨rfl, jp, jpNot, rfl, exec_jr_e8_eq lo s, jr, jrNot⟩

/-- Settles O26: every call is the two stores of its return address and the new PC; one not taken only moves past itself. -/
theorem callsAndRestarts : Obligations.CallsAndRestarts := by
  intro s k lo hi y hy
  obtain ⟨call, callNot⟩ := taken_and_notTaken (exec_callCond k lo hi s)
  exact ⟨exec_call_a16_eq _ s, call, callNot, exec_rst hy lo hi s⟩

/-- Settles O27: every return pops PC at the old SP, and RETI sets IME besides. -/
theorem returns : Obligations.Returns := by
  intro s k b1 b2
  obtain ⟨ret, retNot⟩ := taken_and_notTaken (exec_retCond k b1 b2 s)
  exact ⟨exec_ret_eq s, ret, retNot, exec_reti_eq s⟩

end Sys2Proof.Certificates
end

section
/-! PROOFS. The system instructions (47_system.md R350 to R357): the enabled requests that HALT looks at, the DIV reset of
STOP and what is read after it. -/
namespace Sys2Proof.Machine
open Certificates (somePending wakeCondition)

theorem ne_zero_iff_exists_bit {w : Nat} (v : BitVec w) : v ≠ 0#w ↔ ∃ k < w, v.getLsbD k = true := by
  constructor
  · intro h
    by_contra clear
    refine h (BitVec.eq_of_getLsbD_eq fun k hk => ?_)
    rw [BitVec.getLsbD_zero, ← Bool.not_eq_true]
    exact fun set => clear ⟨k, hk, set⟩
  · rintro ⟨k, -, set⟩ rfl
    rw [BitVec.getLsbD_zero] at set
    exact Bool.noConfusion set

/-! ### Enabled requests -/

theorem pending_getLsbD (s : State) {k : Nat} (h : k < 5) :
    (pending s).getLsbD k = (s.intr.req.getLsbD k && s.intr.ie.getLsbD k) := by
  rw [pending, BitVec.getLsbD_and, BitVec.getLsbD_setWidth, decide_eq_true h, Bool.true_and]

/-- Some request is enabled exactly where IE & IF has a bit (R421). -/
theorem pending_ne_zero_iff (s : State) : pending s ≠ 0 ↔ somePending s := by
  refine (ne_zero_iff_exists_bit _).trans (exists_congr fun k => and_congr_right fun hk => ?_)
  rw [pending_getLsbD s hk, Bool.and_eq_true]

/-- The wake condition of HALT in the words of R402. -/
theorem wakes_iff (s : State) : wakes s = true ↔ wakeCondition s := by
  rw [wakes, wakeCondition]
  cases s.cfg.haltWake with
  | enabledRequest => exact bne_iff_ne.trans (pending_ne_zero_iff s)
  | anyRequest => exact bne_iff_ne.trans (ne_zero_iff_exists_bit s.intr.req)

/-! ### HALT -/

/-- With IME clear and an enabled request the CPU does not halt (R351). -/
theorem haltOp_pending {s : State} (ime : s.cpu.ime = false) (h : somePending s) :
    haltOp s = if s.cfg.haltBug then { s with cpu := { s.cpu with haltBug := true } } else s := by
  rw [haltOp, if_pos]
  rw [Bool.and_eq_true, Bool.not_eq_true', bne_iff_ne, pending_ne_zero_iff]
  exact ⟨ime, h⟩

/-- With IME set or no enabled request the CPU halts (R351). -/
theorem haltOp_halts {s : State} (h : s.cpu.ime = true ∨ ¬ somePending s) :
    haltOp s = { s with cpu := { s.cpu with halted := true } } := by
  rw [haltOp, if_neg]
  rw [Bool.and_eq_true, Bool.not_eq_true', bne_iff_ne, pending_ne_zero_iff]
  rintro ⟨ime, some⟩
  obtain set | none := h
  · rw [ime] at set; exact Bool.noConfusion set
  · exact none some

theorem exec_halt_eq (s : State) : exec .halt s = .next (withCycles 4 (haltOp (advance 1 s))) := rfl

/-! ### STOP -/

theorem exec_stop_refuse {s : State} (mode : s.cfg.stopMode = .refuse) (x : Byte) :
    exec (.stop x) s = .next { s with status := .refused s.cpu.pc x } := by
  change exec_stop x s = _
  rw [exec_stop, mode]; rfl

theorem exec_stop_lowPower {s : State} (mode : s.cfg.stopMode = .lowPower) (x : Byte) :
    exec (.stop x) s = .next (withCycles 4 (stopOp (advance 2 s))) := by
  change exec_stop x s = _
  rw [exec_stop, mode]; rfl

theorem resetDiv_intr {s : State} (h : timerInput s.timer = false) : (resetDiv s).intr = s.intr := by
  rw [resetDiv, timerEdge_intr, h, Bool.false_and, if_neg (fun k => Bool.false_ne_true k.1)]

theorem resetDiv_ie (s : State) : (resetDiv s).intr.ie = s.intr.ie := by
  rw [resetDiv, timerEdge_intr]; split <;> rfl

theorem resetDiv_tma (s : State) : (resetDiv s).timer.tma = s.timer.tma := by rw [resetDiv_timer]
theorem resetDiv_tac (s : State) : (resetDiv s).timer.tac = s.timer.tac := by rw [resetDiv_timer]

theorem stopOp_cpu (s : State) : (stopOp s).cpu = { s.cpu with stopped := true } := by rw [stopOp_eq]
theorem stopOp_ppu (s : State) : (stopOp s).ppu = s.ppu := by rw [stopOp_eq]
theorem stopOp_timer (s : State) : (stopOp s).timer = (resetDiv s).timer := rfl
theorem stopOp_intr (s : State) : (stopOp s).intr = (resetDiv s).intr := rfl

/-- A register of the I/O page with one offset has one address. -/
theorem locate_eq_register {s : State} {a : Word} {r : IoReg} {k : Nat} (unique : ∀ {j}, ioReg j = r → j = k)
    (h : locate s a = .io r) : a = BitVec.ofNat 16 (0xFF00 + k) := by
  have ha := locate_hasAddress s a
  rw [h] at ha
  obtain ⟨lo, hi, reg⟩ := ha
  have := unique reg
  apply BitVec.eq_of_toNat_eq
  rw [BitVec.toNat_ofNat]
  omega

theorem ioReg_eq_div {k : Nat} (h : ioReg k = .div) : k = 0x04 := by
  unfold ioReg at h; split at h <;> simp_all
theorem ioReg_eq_tima {k : Nat} (h : ioReg k = .tima) : k = 0x05 := by
  unfold ioReg at h; split at h <;> simp_all
theorem ioReg_eq_irq {k : Nat} (h : ioReg k = .irq) : k = 0x0F := by
  unfold ioReg at h; split at h <;> simp_all

/-- The DIV reset is seen at DIV, TIMA and IF only (R353, R462). -/
theorem readTarget_stopOp (s : State) {x : Target} (div : x ≠ .io .div) (tima : x ≠ .io .tima) (irq : x ≠ .io .irq) :
    readTarget (stopOp s) x = readTarget s x := by
  rw [stopOp_eq]
  cases x
  case ie => exact resetDiv_ie s
  case io r =>
    cases r
    case div => exact absurd rfl div
    case tima => exact absurd rfl tima
    case irq => exact absurd rfl irq
    case tma => exact resetDiv_tma s
    case tac => exact congrArg (0b11111#5 ++ ·) (resetDiv_tac s)
    all_goals rfl
  all_goals rfl

theorem memRead_stopOp (s : State) {a : Word} (div : a ≠ 0xFF04) (tima : a ≠ 0xFF05) (irq : a ≠ 0xFF0F) :
    memRead (stopOp s) a = memRead s a := by
  have same : locate (stopOp s) a = locate s a := by rw [stopOp_eq]; rfl
  rw [memRead, same]
  exact readTarget_stopOp s (fun h => div (locate_eq_register ioReg_eq_div h))
    (fun h => tima (locate_eq_register ioReg_eq_tima h)) (fun h => irq (locate_eq_register ioReg_eq_irq h))

end Sys2Proof.Machine

namespace Sys2Proof.Certificates
open Sys2Proof.Machine

/-- Settles O28: each is its operation on the registers after the fetch. -/
theorem nopDiEi : Obligations.NopDiEi := fun _ => ⟨rfl, rfl, rfl⟩

/-- Settles O29, by the two cases of `haltOp`; the fetch changes neither IME nor a request. -/
theorem haltCases : Obligations.HaltCases := by
  intro s
  rw [exec_halt_eq]
  refine ⟨fun ime pend bug => ?_, fun ime pend bug => ?_, fun h => ?_⟩
  · rw [haltOp_pending (s := advance 1 s) ime pend, advance_cfg, bug, if_pos rfl]; rfl
  · rw [haltOp_pending (s := advance 1 s) ime pend, advance_cfg, bug, if_neg Bool.false_ne_true]
  · rw [haltOp_halts (s := advance 1 s) h]

/-- Settles O30: the refusal, or the rule of a DIV reset on the state past both bytes. -/
theorem stopModes : Obligations.StopModes := by
  intro s x
  refine ⟨fun mode => exec_stop_refuse mode x, fun mode => ⟨_, exec_stop_lowPower mode x, ?_⟩⟩
  have timer := (stopOp_timer (advance 2 s)).trans (resetDiv_timer (advance 2 s))
  have intr := stopOp_intr (advance 2 s)
  have req := (congrArg Intr.req intr).trans (resetDiv_req (advance 2 s))
  refine ⟨stopOp_cpu _, congrArg Timer.div timer, rfl, resetDiv_tac _, resetDiv_tma _, stopOp_ppu _,
    fun input => ⟨(congrArg Timer.tima timer).trans ?_, intr.trans (resetDiv_intr input)⟩,
    fun input => ⟨(congrArg Timer.tima timer).trans (if_pos input), req.trans ?_⟩, fun a => memRead_stopOp (advance 2 s)⟩
  · simp [input]
  · simp [input]

end Sys2Proof.Certificates
end

section
/-! PROOFS. The steps that wait, and those that run EI, DI or an undefined byte (60_exceptions.md R400 to R406, R440, R610). -/
namespace Sys2Proof.Machine
open Certificates (wakeCondition)

/-! ### Waiting -/

/-- The CPU stays halted until its wake condition (R402). -/
theorem staysHalted_iff (s : State) : staysHalted s = true ↔ s.cpu.halted = true ∧ ¬ wakeCondition s := by
  rw [staysHalted, Bool.and_eq_true, Bool.not_eq_true', ← Bool.not_eq_true, wakes_iff]

theorem step_awake {s : State} (running : s.status = .running) (awake : staysStopped s = false) :
    step s = runAwake (unstop s) := by
  simp only [step, running, awake, Bool.false_eq_true, if_false]

theorem staysStopped_of {s : State} (h : s.cpu.stopped = false) : staysStopped s = false := by
  rw [staysStopped, h, Bool.false_and]

section
variable {s : State} (running : s.status = .running) (stopped : s.cpu.stopped = false)
include running stopped

/-- A halted CPU that does not wake spends 4 cycles (R401, R402). -/
theorem step_halted (h : staysHalted s = true) : step s = .next (advanceDevices (withCycles 4 s)) := by
  rw [step_awake running (staysStopped_of stopped), unstop_of stopped, runAwake, if_pos h]

/-- A CPU that is not halted or wakes goes on in the same step (R402). -/
theorem step_unhalt (h : staysHalted s = false) : step s = runCpu (unhalt s) := by
  rw [step_awake running (staysStopped_of stopped), unstop_of stopped, runAwake, h, if_neg Bool.false_ne_true]

/-- A CPU that is neither stopped nor halted and takes no interrupt runs the instruction at PC (R402, R404). -/
theorem step_fetch (halted : s.cpu.halted = false) (quiet : interruptTaken s = none) :
    step s = finishStep s.cpu.imeDelay (exec (fetchInstr s) s) := by
  have awake : staysHalted s = false := by rw [staysHalted, halted, Bool.false_and]
  rw [step_unhalt running stopped awake, unhalt_of halted, runCpu, quiet]

end

/-! ### After the instruction -/

theorem finishStep_running (e : Bool) {t : State} (running : t.status = .running) :
    finishStep e (.next t) = .next (advanceDevices (settleIme e t)) := by
  rw [finishStep, running]

theorem finishStep_ended (e : Bool) {t : State} (ended : t.status ≠ .running) : finishStep e (.next t) = .next t := by
  rw [finishStep]; split
  · next running => exact absurd running ended
  · rfl

/-- A delay that is still set takes effect at the end of the step (R402). -/
theorem settleIme_delayed {s : State} (h : s.cpu.imeDelay = true) :
    settleIme true s = { s with cpu := { s.cpu with ime := true, imeDelay := false } } := by
  rw [settleIme, h]; rfl

/-- A delay that was cancelled has no effect (R402). -/
theorem settleIme_cancelled (e : Bool) {s : State} (h : s.cpu.imeDelay = false) : settleIme e s = s := by
  rw [settleIme, h, Bool.and_false, if_neg Bool.false_ne_true]

@[simp] theorem advanceDevices_cpu (s : State) : (advanceDevices s).cpu = s.cpu := by rw [advanceDevices_eq]

theorem advanceDevices_div (s : State) :
    (advanceDevices s).timer.div = s.timer.div + BitVec.ofNat 16 s.stepCycles := by
  rw [← timerAdvance_div, advanceDevices_run, ppuAdvance_eq]

/-! ### The EI delay -/

/-- Only DI and EI write the EI delay (R354, R355). -/
theorem shapeOf_imeDelay (i : Instr) : i = .di ∨ i = .ei ∨ (shapeOf i).footprint.imeDelay = false := by
  cases i
  case di => exact .inl rfl
  case ei => exact .inr (.inl rfl)
  all_goals exact .inr (.inr rfl)

/-- A delay that is set stays set through every instruction but DI. -/
theorem exec_keeps_delay {i : Instr} {s t : State} (h : exec i s = .next t) (notDi : i ≠ .di)
    (delay : s.cpu.imeDelay = true) : t.cpu.imeDelay = true := by
  obtain rfl | rfl | outside := shapeOf_imeDelay i
  · exact absurd rfl notDi
  · cases h; rfl
  · rw [exec_eq_run] at h
    rw [(Shape.run_keepsOutside _ h).imeDelay outside, delay]

end Sys2Proof.Machine

namespace Sys2Proof.Certificates
open Sys2Proof.Machine

/-- Settles O31: the byte decodes to itself, its meaning writes `status` only, and an ended step advances nothing. -/
theorem undefinedOpcodeEndsRun : Obligations.UndefinedOpcodeEndsRun := by
  intro s op b1 b2 undef
  have run (b1 b2 : Byte) : exec (decodeAt op b1 b2) s = .next { s with status := .faulted op s.cpu.pc } := by
    rw [decodeAt_undefined undef]; rfl
  refine ⟨run b1 b2, fun running stopped halted quiet byte => ⟨?_, (stepEnabledWhileRunning _).2.1 op _ rfl⟩⟩
  rw [step_fetch running stopped halted quiet, fetchInstr, byte, run, finishStep_ended _ (by nofun)]

/-- Settles O48: EI and DI by their whole next state; a delay that the instruction leaves set takes effect. -/
theorem eiTakesEffectOneInstructionLater : Obligations.EiTakesEffectOneInstructionLater := by
  intro s t running stopped halted quiet h
  obtain ⟨-, di, ei⟩ := nopDiEi s
  rw [step_fetch running stopped halted quiet] at h
  refine ⟨fun isEi idle => ?_, fun isDi => ?_, fun delay notDi going => ?_⟩
  · rw [isEi, ei, finishStep_running _ (by exact running), idle] at h
    cases h
    rw [advanceDevices_cpu]
    exact ⟨rfl, rfl⟩
  · rw [isDi, di, finishStep_running _ (by exact running), settleIme_cancelled _ rfl] at h
    cases h
    rw [advanceDevices_cpu]
    exact ⟨rfl, rfl⟩
  · obtain ⟨u, hu⟩ := exec_next (fetchInstr s) s
    rw [hu, delay] at h
    by_cases goes : u.status = .running
    · rw [finishStep_running _ goes, settleIme_delayed (exec_keeps_delay hu notDi delay)] at h
      cases h
      rw [advanceDevices_cpu]
      exact ⟨rfl, rfl⟩
    · rw [finishStep_ended _ goes] at h
      cases h
      exact absurd going goes

/-- Settles O49: a halted and a stopped CPU, each waiting or going on in the same step. -/
theorem waitingStates : Obligations.WaitingStates := by
  intro s running
  refine ⟨fun stopped halted => ⟨fun waits => ?_, fun wake => ?_⟩, fun stopped => ⟨fun high => ?_, fun low => ?_⟩⟩
  · exact ⟨_, step_halted running stopped ((staysHalted_iff s).2 ⟨halted, waits⟩), advanceDevices_cpu _,
      advanceDevices_stepCycles _, advanceDevices_totalCycles _, advanceDevices_div _, advanceDevices_run _⟩
  · have awake : staysHalted s = false := by
      rw [← Bool.not_eq_true, staysHalted_iff]; exact fun h => h.2 wake
    rw [step_unhalt running stopped awake, step_unhalt (s := unhalt s) running stopped rfl]
    rfl
  · rw [step_stopped running ((staysStopped_iff s).2 ⟨stopped, high⟩)]
    rfl
  · have awake : staysStopped s = false := by
      rw [← Bool.not_eq_true, staysStopped_iff]; exact fun h => low h.2
    rw [step_awake running awake, step_awake (s := unstop s) running rfl]
    rfl

end Sys2Proof.Certificates
end

section
/-! PROOFS. Loading a cartridge (70_reset_and_hazards.md R604): the conditions that refuse it, in the order they are looked
at. -/
namespace Sys2Proof.Machine

/-- The five outcomes of the validation, each under its condition (R604). -/
theorem loadProblem_cases (cfg : Config) (kind : Option CartKind) :
    (cfg.romLen < 32768 ∧ loadProblem cfg kind = some .tooShort)
    ∨ 32768 ≤ cfg.romLen ∧
      ((¬ 16384 ∣ cfg.romLen ∧ loadProblem cfg kind = some .notWholeBanks)
      ∨ 16384 ∣ cfg.romLen ∧
        ((kind = none ∧ loadProblem cfg kind = some .unknownKind)
        ∨ kind ≠ none ∧
          ((cfg.ramSize ∉ legalRamSizes ∧ loadProblem cfg kind = some .badRamSize)
          ∨ cfg.ramSize ∈ legalRamSizes ∧ loadProblem cfg kind = none))) := by
  simp only [loadProblem, List.contains_iff_mem, ← Nat.dvd_iff_mod_eq_zero, ne_eq, ite_not]
  split_ifs with short banks unknown ram
  · exact .inl ⟨short, rfl⟩
  · exact .inr ⟨not_lt.1 short, .inr ⟨banks, .inl ⟨unknown, rfl⟩⟩⟩
  · exact .inr ⟨not_lt.1 short, .inr ⟨banks, .inr ⟨unknown, .inr ⟨ram, rfl⟩⟩⟩⟩
  · exact .inr ⟨not_lt.1 short, .inr ⟨banks, .inr ⟨unknown, .inl ⟨ram, rfl⟩⟩⟩⟩
  · exact .inr ⟨not_lt.1 short, .inl ⟨banks, rfl⟩⟩

/-- The load is refused exactly for the reason that the validation names (R442). -/
theorem load_eq_error_iff {cfg : Config} {kind : Option CartKind} {w : InitDraw} {e : LoadError} :
    load cfg kind w = .error e ↔ loadProblem cfg kind = some e := by
  rw [load]; split <;> simp [*]

/-- A cartridge with no problem is loaded into the reset state (R600). -/
theorem load_ok {cfg : Config} {kind : CartKind} (h : loadProblem cfg (some kind) = none) (w : InitDraw) :
    load cfg (some kind) w = .ok (State.resetWith cfg kind w) := by
  rw [load, h]; rfl

end Sys2Proof.Machine

namespace Sys2Proof.Certificates
open Sys2Proof.Machine

/-- Settles O57: in each outcome of the validation one condition holds and the others fail. -/
theorem loadValidation : Obligations.LoadValidation := by
  intro cfg kind w
  simp only [load_eq_error_iff, ← legalRamSizes.eq_1]
  obtain ⟨short, p⟩ | ⟨long, ⟨banks, p⟩ | ⟨banks, ⟨unknown, p⟩ | ⟨known, ⟨ram, p⟩ | ⟨ram, p⟩⟩⟩⟩ :=
    loadProblem_cases cfg kind
  · simp [p, short, Nat.not_le.2 short]
  · simp [p, long, banks]
  · subst unknown; simp [p, long, banks]
  · simp [p, long, banks, known, ram]
  · refine ⟨by simp [p, long], by simp [p, banks], by simp [p, known], by simp [p, ram], ?_⟩
    rintro k rfl - - -
    exact load_ok p w

end Sys2Proof.Certificates
end

section
/-! PROOFS. The interrupt to dispatch (60_exceptions.md R421, R422) and its dispatch (R402, R430, R431). -/
namespace Sys2Proof.Machine
open Certificates (somePending wakeCondition plain)

/-! ### The pending vector -/

theorem lowestBit_eq_find? (p : BitVec 5) : lowestBit p = (List.range 5).find? (p.getLsbD ·) := by
  revert p; decide

theorem pendingVector_eq_none_iff (s : State) : pendingVector s = none ↔ ¬ somePending s := by
  rw [pendingVector, Option.map_eq_none_iff, lowestBit_eq_find?, List.find?_range_eq_none, somePending]
  push Not
  refine forall₂_congr fun k hk => ?_
  rw [pending_getLsbD s hk, Bool.not_eq_true', Bool.and_eq_false_imp, ne_eq, Bool.not_eq_true]

theorem lowestBit_pending_eq_some_iff (s : State) (k : Nat) :
    lowestBit (pending s) = some k ↔
      k < 5 ∧ s.intr.req.getLsbD k = true ∧ s.intr.ie.getLsbD k = true
      ∧ ∀ j < k, s.intr.req.getLsbD j = false ∨ s.intr.ie.getLsbD j = false := by
  rw [lowestBit_eq_find?, List.find?_range_eq_some, List.mem_range, and_left_comm]
  refine and_congr_right fun hk => ?_
  rw [pending_getLsbD s hk, Bool.and_eq_true, and_assoc]
  refine and_congr_right fun _ => and_congr_right fun _ => forall₂_congr fun j hj => ?_
  rw [pending_getLsbD s (hj.trans hk), Bool.not_eq_true', Bool.and_eq_false_iff]

theorem pendingVector_eq_some_iff (s : State) (k : Nat) (vec : Word) :
    pendingVector s = some (k, vec) ↔ lowestBit (pending s) = some k ∧ vec = vectorOf k := by
  rw [pendingVector, Option.map_eq_some_iff]
  constructor
  · rintro ⟨j, hj, h⟩
    cases h
    exact ⟨hj, rfl⟩
  · rintro ⟨hk, rfl⟩
    exact ⟨k, hk, rfl⟩

/-- A pending vector wakes the CPU under either wake condition (R402). -/
theorem wakeCondition_of_pendingVector {s : State} {k : Nat} {vec : Word} (h : pendingVector s = some (k, vec)) :
    wakeCondition s := by
  obtain ⟨hk, req, ie, -⟩ := (lowestBit_pending_eq_some_iff s k).1 ((pendingVector_eq_some_iff s k vec).1 h).1
  rw [wakeCondition]
  cases s.cfg.haltWake with
  | enabledRequest => exact ⟨k, hk, req, ie⟩
  | anyRequest => exact ⟨k, hk, req⟩

/-! ### The dispatch -/

/-- With IME set and a pending vector the step is the dispatch, halted or not (R402). -/
theorem step_dispatch {s : State} {k : Nat} {vec : Word} (running : s.status = .running)
    (stopped : s.cpu.stopped = false) (ime : s.cpu.ime = true) (pend : pendingVector s = some (k, vec)) :
    step s = .next (advanceDevices (dispatch k vec (unhalt s))) := by
  have awake : staysHalted s = false := by
    rw [← Bool.not_eq_true, staysHalted_iff]
    exact fun h => h.2 (wakeCondition_of_pendingVector pend)
  have taken : interruptTaken (unhalt s) = some (k, vec) := (if_pos ime).trans pend
  rw [step_unhalt running stopped awake, runCpu, taken]

/-- The CPU after a dispatch (R430). -/
theorem dispatch_cpu (k : Nat) (vec : Word) (s : State) :
    (dispatch k vec s).cpu =
      { s.cpu with sp := s.cpu.sp - 2, pc := vec, ime := false, imeDelay := false, haltBug := false } := by
  rw [dispatch_eq]; rfl

theorem dispatch_req (k : Nat) (vec : Word) (s : State) :
    (dispatch k vec s).intr.req = (push16 (dispatchReturn s) s).intr.req &&& ~~~(1#5 <<< k) := rfl

theorem getLsbD_clear_bit {w : Nat} (v : BitVec w) (k j : Nat) :
    (v &&& ~~~(1#w <<< k)).getLsbD j = (v.getLsbD j && decide (j ≠ k)) := by
  rw [← BitVec.twoPow_eq, BitVec.getLsbD_and, BitVec.getLsbD_not, BitVec.getLsbD_twoPow]
  by_cases same : j = k
  · simp [same]
  · have inside (h : v.getLsbD j = true) : j < w := BitVec.lt_of_getLsbD h
    simpa [same, Ne.symm same] using inside

/-- Clearing a request is seen at IF only. -/
theorem memRead_clearRequest (k : Nat) (s : State) {a : Word} (h : plain (locate s a) = true) :
    memRead (clearRequest k s) a = memRead s a := by
  have same : locate (clearRequest k s) a = locate s a := rfl
  rw [memRead, memRead, same]
  generalize locate s a = x at h
  cases x
  case io r =>
    cases r
    case irq => exact Bool.noConfusion h
    all_goals rfl
  all_goals rfl

/-- A write to plain storage makes and clears no request. -/
theorem memWrite_plain_req {s : State} {a : Word} (h : plain (locate s a) = true) (v : Byte) :
    (memWrite s a v).intr.req = s.intr.req := by
  rw [memWrite]
  generalize locate s a = x at h
  cases x
  case io r =>
    cases r
    case p1 | div | tac | irq | lcdc | dma => exact Bool.noConfusion h
    all_goals rfl
  all_goals rfl

section
variable {s : State} (hi : plain (locate s (s.cpu.sp - 1)) = true) (lo : plain (locate s (s.cpu.sp - 2)) = true)
include hi lo

/-- A push to plain storage leaves the decoding of every address and the requests. -/
theorem push16_plain (v : Word) :
    (∀ a, locate (push16 v s) a = locate s a) ∧ (push16 v s).intr.req = s.intr.req := by
  have same (b : Word) : locate (memWrite s (s.cpu.sp - 1) (hiByte v)) b = locate s b :=
    locate_memWrite s _ (isolated_ne_cart (isolated_of_plain hi)) b
  have lo' : plain (locate (memWrite s (s.cpu.sp - 1) (hiByte v)) (s.cpu.sp - 2)) = true := by rw [same]; exact lo
  rw [push16_eq]
  refine ⟨fun a => ?_, ?_⟩
  · exact (locate_memWrite _ _ (isolated_ne_cart (isolated_of_plain lo')) a).trans (same a)
  · exact (memWrite_plain_req lo' _).trans (memWrite_plain_req hi _)

/-- The pushed bytes are read back at their addresses, where both are plain storage at two places (R37). -/
theorem memRead_push16 (hs : s.storesOk = true) (hne : locate s (s.cpu.sp - 1) ≠ locate s (s.cpu.sp - 2)) (v : Word) :
    memRead (push16 v s) (s.cpu.sp - 1) = hiByte v ∧ memRead (push16 v s) (s.cpu.sp - 2) = loByte v := by
  have up : s.cpu.sp - 2 + 1 = s.cpu.sp - 1 := by bv_omega
  have back := popValue_push16 hs v hi lo hne
  rw [popValue, push16_cpu] at back
  simp only [up] at back
  exact ⟨by rw [← hiByte_mk16 (memRead _ _), back], by rw [← loByte_mk16 _ (memRead _ _), back]⟩

/-- The same after a dispatch, which then clears one request (R430). -/
theorem memRead_dispatch (hs : s.storesOk = true) (hne : locate s (s.cpu.sp - 1) ≠ locate s (s.cpu.sp - 2)) (k : Nat)
    (vec : Word) : memRead (dispatch k vec s) (s.cpu.sp - 1) = hiByte (dispatchReturn s)
      ∧ memRead (dispatch k vec s) (s.cpu.sp - 2) = loByte (dispatchReturn s) := by
  obtain ⟨same, -⟩ := push16_plain hi lo (dispatchReturn s)
  have cleared (a : Word) (h : plain (locate s a) = true) :
      memRead (dispatch k vec s) a = memRead (push16 (dispatchReturn s) s) a :=
    memRead_clearRequest k (push16 (dispatchReturn s) s) (by rw [same]; exact h)
  rw [cleared _ hi, cleared _ lo]
  exact memRead_push16 hi lo hs hne (dispatchReturn s)

end

end Sys2Proof.Machine

namespace Sys2Proof.Certificates
open Sys2Proof.Machine

/-- Settles O46: the lowest bit of IE & IF, as the first hit of a search from bit 0. -/
theorem pendingVectorIsLowestBit : Obligations.PendingVectorIsLowestBit := by
  refine fun s => ⟨fun k vec => ?_, pendingVector_eq_none_iff s⟩
  rw [pendingVector_eq_some_iff, lowestBit_pending_eq_some_iff, vectorOf]
  tauto

/-- Settles O47: the step is the dispatch on the state that has left HALT. -/
theorem interruptDispatch : Obligations.InterruptDispatch := by
  intro s k vec running stopped ime pend
  refine ⟨?_, dispatch_cpu k vec (unhalt s), rfl, ?_, fun hs hi lo hne => ?_⟩
  · rw [step_dispatch running stopped ime pend, advanceDevices_run, dispatch_totalCycles]; rfl
  · rw [dispatch_req, getLsbD_clear_bit]; simp
  · obtain ⟨high, low⟩ := memRead_dispatch (s := unhalt s) hi lo hs hne k vec
    refine ⟨high, low, fun j _ hj => ?_⟩
    rw [dispatch_req, getLsbD_clear_bit, (push16_plain (s := unhalt s) hi lo _).2, decide_eq_true hj, Bool.and_true]
    rfl

end Sys2Proof.Certificates
end

section
/-! PROOFS. A step that runs an instruction (60_exceptions.md R400, R402 to R405): the bytes at PC decode to the instruction
that the step runs. -/
namespace Sys2Proof.Machine

/-- The bytes at PC always decode, to the instruction that the step runs (R170). -/
theorem eq_fetchInstr {s : State} {i : Instr} {rest : List Byte} (h : decode (fetchBytes s) = .ok (i, rest)) :
    i = fetchInstr s := by
  rw [fetchBytes, Certificates.decodingByFirstByte.2.1] at h
  cases h
  rfl

theorem settleIme_eq (e : Bool) (t : State) :
    settleIme e t = if e = true ∧ t.cpu.imeDelay = true
      then { t with cpu := { t.cpu with ime := true, imeDelay := false } } else t := by
  rw [settleIme]
  exact if_congr (Bool.and_eq_true_iff) rfl rfl

end Sys2Proof.Machine

namespace Sys2Proof.Certificates
open Sys2Proof.Machine

/-- Settles O44, by whether the instruction leaves the run going. -/
theorem stepRunsDecodedInstruction : Obligations.StepRunsDecodedInstruction := by
  intro s i rest running stopped halted quiet decoded
  have ran : step s = finishStep s.cpu.imeDelay (exec i s) := by
    rw [eq_fetchInstr decoded, step_fetch running stopped halted quiet]
  refine ⟨ran, fun t ht going => ?_, fun t ht ended => ?_⟩
  · intro n u
    have settled : settleIme s.cpu.imeDelay t = u := settleIme_eq _ t
    rw [ran, ht, finishStep_running _ going, advanceDevices_run, settleIme_totalCycles, settleIme_stepCycles,
      exec_totalCycles ht, settled]
  · rw [ran, ht, finishStep_ended _ ended]

end Sys2Proof.Certificates
end

section
/-! PROOFS. One dot of the PPU (60_exceptions.md R471 to R476): what each branch leaves in the PPU, and the request bits it
sets. -/
namespace Sys2Proof.Machine

/-- The machine with the PPU `p`, and with the request bits `r` set besides its own. -/
def withPpu (p : Ppu) (r : BitVec 5) (s : State) : State :=
  { s with ppu := p, intr := { s.intr with req := s.intr.req ||| r } }

@[simp] theorem withPpu_ppu (p : Ppu) (r : BitVec 5) (s : State) : (withPpu p r s).ppu = p := rfl
@[simp] theorem withPpu_ie (p : Ppu) (r : BitVec 5) (s : State) : (withPpu p r s).intr.ie = s.intr.ie := rfl
@[simp] theorem withPpu_req (p : Ppu) (r : BitVec 5) (s : State) :
    (withPpu p r s).intr.req = s.intr.req ||| r := rfl

theorem withPpu_none (p : Ppu) (s : State) : withPpu p 0 s = { s with ppu := p } := by
  simp [withPpu]

theorem withPpu_withPpu (p p' : Ppu) (r r' : BitVec 5) (s : State) :
    withPpu p r (withPpu p' r' s) = withPpu p (r' ||| r) s := by
  simp only [withPpu, BitVec.or_assoc]

/-- The LCD-STAT request, if there is one (R472, R475). -/
def statRequest (b : Bool) : BitVec 5 := if b then 2 else 0

theorem statRequest_or (b c : Bool) : statRequest b ||| statRequest c = statRequest (c || b) := by
  cases b <;> cases c <;> rfl

/-- A new line `line` equal to LYC requests LCD-STAT where STAT bit 6 is set (R475). -/
def lycRequests (p : Ppu) (line : Nat) : Bool := p.stat.getLsbD 3 && decide (line = p.lyc.toNat)

theorem enterMode_eq_withPpu (m : PpuMode) (s : State) :
    enterMode m s = withPpu { s.ppu with mode := m } (statRequest (modeRequests s.ppu.stat m)) s := by
  cases h : modeRequests s.ppu.stat m
  · simp only [enterMode, h, Bool.false_eq_true, if_false]; exact (withPpu_none _ s).symm
  · simp only [enterMode, h, if_true]; rfl

theorem lycCheck_eq_withPpu (s : State) :
    lycCheck s = withPpu s.ppu (statRequest (lycRequests s.ppu s.ppu.ly)) s := by
  have same : (lyEqLyc s.ppu && s.ppu.stat.getLsbD 3) = lycRequests s.ppu s.ppu.ly := Bool.and_comm ..
  rw [lycCheck, same]
  cases lycRequests s.ppu s.ppu.ly
  · exact (withPpu_none _ s).symm
  · rfl

/-- The new line, before the mode it enters: the LYC comparison (R471, R475). -/
theorem lycCheck_newLine (s : State) (line : Nat) :
    lycCheck { s with ppu := { s.ppu with dot := 0, ly := line } }
      = withPpu { s.ppu with dot := 0, ly := line } (statRequest (lycRequests s.ppu line)) s :=
  lycCheck_eq_withPpu _

/-- What the next dot does (R471). -/
inductive DotCase (p : Ppu) : Prop where
  | off (off : lcdOn p = false)
  | pixelTransfer (on : lcdOn p = true) (visible : p.ly < 144) (dot : p.dot = 79)
  | hBlank (on : lcdOn p = true) (visible : p.ly < 144) (dot : p.dot + 1 = 252)
  | visibleLine (on : lcdOn p = true) (dot : p.dot + 1 = 456) (line : (p.ly + 1) % 154 < 144)
  | line144 (on : lcdOn p = true) (dot : p.dot + 1 = 456) (line : (p.ly + 1) % 154 = 144)
  | vBlankLine (on : lcdOn p = true) (dot : p.dot + 1 = 456) (line : 144 < (p.ly + 1) % 154)
  | counts (on : lcdOn p = true) (dot : p.dot + 1 ≠ 456) (same : 144 ≤ p.ly ∨ p.dot + 1 ≠ 80 ∧ p.dot + 1 ≠ 252)

theorem ppuTick_none {s : State} (off : lcdOn s.ppu = false) : ppuTick s = withPpu s.ppu 0 s :=
  (ppuTick_off s off).trans (withPpu_none _ s).symm

theorem dotCase (p : Ppu) : DotCase p := by
  cases on : lcdOn p with
  | false => exact .off on
  | true =>
    by_cases dot : p.dot + 1 = 456
    · obtain line | line | line := lt_trichotomy ((p.ly + 1) % 154) 144
      · exact .visibleLine on dot line
      · exact .line144 on dot line
      · exact .vBlankLine on dot line
    · by_cases same : 144 ≤ p.ly ∨ p.dot + 1 ≠ 80 ∧ p.dot + 1 ≠ 252
      · exact .counts on dot same
      · by_cases p.dot = 79
        · exact .pixelTransfer on (by omega) (by omega)
        · exact .hBlank on (by omega) (by omega)

section
variable {s : State} (on : lcdOn s.ppu = true)
include on

theorem ppuTick_hBlank (visible : s.ppu.ly < 144) (dot : s.ppu.dot + 1 = 252) :
    ppuTick s = withPpu { s.ppu with dot := 252, mode := .hBlank } (statRequest (modeRequests s.ppu.stat .hBlank)) s := by
  simp only [ppuTick, on, if_true, dot, visible, true_and]
  exact enterMode_eq_withPpu .hBlank { s with ppu := { s.ppu with dot := 252 } }

theorem ppuTick_counts (dot : s.ppu.dot + 1 ≠ 456)
    (same : 144 ≤ s.ppu.ly ∨ s.ppu.dot + 1 ≠ 80 ∧ s.ppu.dot + 1 ≠ 252) :
    ppuTick s = withPpu { s.ppu with dot := s.ppu.dot + 1 } 0 s := by
  simp only [ppuTick, on, if_true]
  rw [if_neg (by omega), if_neg (by omega), if_neg dot, withPpu_none]

theorem ppuTick_lineEnd (dot : s.ppu.dot + 1 = 456) : ppuTick s = nextLine s := by
  simp only [ppuTick, on, if_true, dot, Nat.reduceEqDiff, and_false, if_false]
  rfl

theorem ppuTick_visibleLine (dot : s.ppu.dot + 1 = 456) (line : (s.ppu.ly + 1) % 154 < 144) :
    ppuTick s = withPpu { s.ppu with dot := 0, ly := (s.ppu.ly + 1) % 154, mode := .oamScan }
      (statRequest (modeRequests s.ppu.stat .oamScan || lycRequests s.ppu ((s.ppu.ly + 1) % 154))) s := by
  rw [ppuTick_lineEnd on dot, nextLine]
  simp only [line, if_true]
  rw [lycCheck_newLine, enterMode_eq_withPpu, withPpu_withPpu, withPpu_ppu, statRequest_or]

theorem ppuTick_line144 (dot : s.ppu.dot + 1 = 456) (line : (s.ppu.ly + 1) % 154 = 144) :
    ppuTick s = withPpu { s.ppu with dot := 0, ly := 144, mode := .vBlank, frameReady := true }
      (1 ||| statRequest (modeRequests s.ppu.stat .vBlank || lycRequests s.ppu 144)) s := by
  rw [ppuTick_lineEnd on dot, nextLine]
  simp only [line, lt_irrefl, if_true, if_false]
  rw [lycCheck_newLine, enterMode_eq_withPpu, withPpu_withPpu, withPpu_ppu, statRequest_or, BitVec.or_comm]
  simp only [withPpu, request, BitVec.or_assoc]
  rfl

theorem ppuTick_vBlankLine (dot : s.ppu.dot + 1 = 456) (line : 144 < (s.ppu.ly + 1) % 154) :
    ppuTick s = withPpu { s.ppu with dot := 0, ly := (s.ppu.ly + 1) % 154 }
      (statRequest (lycRequests s.ppu ((s.ppu.ly + 1) % 154))) s := by
  rw [ppuTick_lineEnd on dot, nextLine]
  simp only [line.not_gt, line.ne', if_false]
  exact lycCheck_newLine s _

end

/-- The dot that enters pixel transfer, with the row of the frame buffer that it renders (R480). -/
theorem ppuTick_pixelTransfer {s : State} (on : lcdOn s.ppu = true) (visible : s.ppu.ly < 144) (dot : s.ppu.dot = 79) :
    ppuTick s = withPpu { s.ppu with dot := 80, mode := .pixelTransfer, fb := (renderLine s.ppu.ly s).ppu.fb } 0 s := by
  rw [ppuTick_renders on visible dot, withPpu_none]
  simp only [renderLine]

end Sys2Proof.Machine
end

section
/-! PROOFS. The Timer and the PPU side by side (60_exceptions.md R400, R460, R470): a cycle of the one commutes with a dot
of the other, since each reads its own registers only and the request bits are only set. -/
namespace Sys2Proof.Machine

/-- The machine with the timer `t`, and with the request bits `r` set besides its own. -/
def withTimer (t : Timer) (r : BitVec 5) (s : State) : State :=
  { s with timer := t, intr := { s.intr with req := s.intr.req ||| r } }

/-- The timer after one cycle (R461). -/
def timerNext (t : Timer) : Timer :=
  { t.after 1 with tima := if inputFalls t then (if t.tima = 0xFF then t.tma else t.tima + 1) else t.tima }

/-- The request bits that a cycle of the timer `t` sets (R461). -/
def timerRequests (t : Timer) : BitVec 5 := if inputFalls t = true ∧ t.tima = 0xFF then 4 else 0

theorem timerTick_eq_withTimer (s : State) :
    timerTick s = withTimer (timerNext s.timer) (timerRequests s.timer) s := by
  have timer : (timerTick s).timer = timerNext s.timer := timerEdge_timer _ s
  have intr : (timerTick s).intr = if inputFalls s.timer = true ∧ s.timer.tima = 0xFF
      then { s.intr with req := s.intr.req ||| 4 } else s.intr := timerEdge_intr _ s
  rw [timerTick_eq, timer, intr, withTimer, timerRequests]
  split <;> simp

/-- A dot of a machine with nothing but the PPU `p` and the VRAM that it reads. -/
def dotOf (p : Ppu) (vram : Memory) : State := ppuTick { ppu := p, vram := vram }

theorem ppuTick_eq_of_dotOf {s : State} {p : Ppu} {r : BitVec 5} (h : ppuTick s = withPpu p r s)
    (h' : dotOf s.ppu s.vram = withPpu p r { ppu := s.ppu, vram := s.vram }) :
    ppuTick s = withPpu (dotOf s.ppu s.vram).ppu (dotOf s.ppu s.vram).intr.req s := by
  rw [h, h', withPpu_ppu, withPpu_req]
  exact congrArg (withPpu p · s) BitVec.zero_or.symm

/-- A dot depends on the PPU and the VRAM only, and sets request bits: each branch does. -/
theorem ppuTick_eq_withPpu (s : State) :
    ppuTick s = withPpu (dotOf s.ppu s.vram).ppu (dotOf s.ppu s.vram).intr.req s := by
  cases dotCase s.ppu with
  | off off => exact ppuTick_eq_of_dotOf (ppuTick_none off) (ppuTick_none off)
  | pixelTransfer on visible dot =>
    exact ppuTick_eq_of_dotOf (ppuTick_pixelTransfer on visible dot) (ppuTick_pixelTransfer on visible dot)
  | hBlank on visible dot => exact ppuTick_eq_of_dotOf (ppuTick_hBlank on visible dot) (ppuTick_hBlank on visible dot)
  | visibleLine on dot line =>
    exact ppuTick_eq_of_dotOf (ppuTick_visibleLine on dot line) (ppuTick_visibleLine on dot line)
  | line144 on dot line =>
    exact ppuTick_eq_of_dotOf (ppuTick_line144 on dot line) (ppuTick_line144 on dot line)
  | vBlankLine on dot line =>
    exact ppuTick_eq_of_dotOf (ppuTick_vBlankLine on dot line) (ppuTick_vBlankLine on dot line)
  | counts on dot same => exact ppuTick_eq_of_dotOf (ppuTick_counts on dot same) (ppuTick_counts on dot same)

theorem withPpu_withTimer (p : Ppu) (t : Timer) (q r : BitVec 5) (s : State) :
    withPpu p q (withTimer t r s) = withTimer t r (withPpu p q s) := by
  simp only [withPpu, withTimer, BitVec.or_assoc, BitVec.or_comm q r]

/-- A dot and a timer cycle commute. -/
theorem ppuTick_timerTick_commute : Function.Commute ppuTick timerTick := fun s => by
  have timer (p : Ppu) (r : BitVec 5) : (withPpu p r s).timer = s.timer := rfl
  have ppu (t : Timer) (r : BitVec 5) : (withTimer t r s).ppu = s.ppu := rfl
  have vram (t : Timer) (r : BitVec 5) : (withTimer t r s).vram = s.vram := rfl
  rw [timerTick_eq_withTimer s, ppuTick_eq_withPpu (withTimer _ _ s), ppu, vram, ppuTick_eq_withPpu s,
    timerTick_eq_withTimer (withPpu _ _ s), timer, withPpu_withTimer]

theorem iter_eq_iterate (f : State → State) (n : Nat) : iter f n = f^[n] := by
  induction n with
  | zero => rfl
  | succ n ih => rw [Function.iterate_succ, ← ih]; rfl

end Sys2Proof.Machine

namespace Sys2Proof.Certificates
open Sys2Proof.Machine

/-- Settles O53: the two commute cycle by cycle, so all cycles of the one may come first. -/
theorem deviceOrderDoesNotMatter : Obligations.DeviceOrderDoesNotMatter := by
  intro s n
  rw [ppuAdvance, timerAdvance, iter_eq_iterate, iter_eq_iterate, iter_eq_iterate]
  exact (congrFun (ppuTick_timerTick_commute.comp_iterate n) s).symm

end Sys2Proof.Certificates
end

section
/-! PROOFS. A frame of 154 lines of 456 dots (60_exceptions.md R471, R474, R476): the dots since line 144 began count through
it, and their overflow is the entry into V-blank. -/
namespace Sys2Proof.Machine
open Certificates (vBlankEntries)

/-- The PPU scans: the LCD is on, and line, dot and mode are legal (R471). -/
structure Scans (p : Ppu) : Prop where
  on : lcdOn p = true
  ly : p.ly < 154
  dot : p.dot < 456
  mode : p.mode = modeAt p.ly p.dot

theorem scans_iff {p : Ppu} (on : lcdOn p = true) : Scans p ↔ ppuOk p = true := by
  rw [ppuOk, if_pos on, Bool.and_eq_true, Bool.and_eq_true, decide_eq_true_eq, decide_eq_true_eq, beq_iff_eq, and_assoc]
  exact ⟨fun h => ⟨h.ly, h.dot, h.mode⟩, fun ⟨ly, dot, mode⟩ => ⟨on, ly, dot, mode⟩⟩

/-- The dots of a frame, counted from the beginning of line 144. -/
def framePhase (p : Ppu) : Nat := ((p.ly + 10) % 154) * 456 + p.dot

theorem framePhase_lt {p : Ppu} (h : Scans p) : framePhase p < 70224 := by
  have dot := h.dot
  rw [framePhase]; omega

/-- The phase fixes line, dot and mode. -/
theorem Scans.eq_of_framePhase {p q : Ppu} (hp : Scans p) (hq : Scans q) (h : framePhase p = framePhase q) :
    p.ly = q.ly ∧ p.dot = q.dot ∧ p.mode = q.mode := by
  obtain ⟨-, ply, pdot, pmode⟩ := hp
  obtain ⟨-, qly, qdot, qmode⟩ := hq
  rw [framePhase, framePhase] at h
  have ly : p.ly = q.ly := by omega
  have dot : p.dot = q.dot := by omega
  exact ⟨ly, dot, by rw [pmode, qmode, ly, dot]⟩

section
variable {s : State} (h : Scans s.ppu)
include h

theorem ppuTick_scans : Scans (ppuTick s).ppu := by
  have ok := (scans_iff h.on).1 h
  obtain ⟨lcdc, -⟩ := ppuTick_ppu s h.on ok
  refine (scans_iff ?_).2 (ppuTick_ppuOk s ok)
  rw [lcdOn, lcdc]; exact h.on

/-- A dot advances the phase by one, modulo the frame. -/
theorem ppuTick_framePhase : framePhase (ppuTick s).ppu = (framePhase s.ppu + 1) % 70224 := by
  obtain ⟨-, ly, dot, -⟩ := ppuTick_ppu s h.on ((scans_iff h.on).1 h)
  obtain ⟨-, hly, hdot, -⟩ := h
  rw [framePhase, framePhase, ly, dot]
  split <;> omega

/-- A dot enters line 144 exactly on the last phase. -/
theorem ppuTick_enters_iff : s.ppu.ly ≠ 144 ∧ (ppuTick s).ppu.ly = 144 ↔ framePhase s.ppu + 1 = 70224 := by
  obtain ⟨-, ly, -⟩ := ppuTick_ppu s h.on ((scans_iff h.on).1 h)
  obtain ⟨-, hly, hdot, -⟩ := h
  rw [framePhase, ly]
  split <;> omega

end

theorem ppuAdvance_succ (n : Nat) (s : State) : ppuAdvance (n + 1) s = ppuAdvance n (ppuTick s) := rfl

theorem ppuAdvance_scans (n : Nat) {s : State} (h : Scans s.ppu) : Scans (ppuAdvance n s).ppu :=
  iter_induct (Scans ·.ppu) ppuTick (fun _ => ppuTick_scans) n s h

theorem ppuAdvance_framePhase (n : Nat) {s : State} (h : Scans s.ppu) :
    framePhase (ppuAdvance n s).ppu = (framePhase s.ppu + n) % 70224 := by
  induction n generalizing s with
  | zero => rw [Nat.add_zero, Nat.mod_eq_of_lt (framePhase_lt h)]; rfl
  | succ n ih =>
    rw [ppuAdvance_succ, ih (ppuTick_scans h), ppuTick_framePhase h, Nat.mod_add_mod, Nat.add_right_comm, Nat.add_assoc]

/-- Line 144 is entered each time the phase overflows. -/
theorem vBlankEntries_eq (n : Nat) {s : State} (h : Scans s.ppu) :
    vBlankEntries n s = (framePhase s.ppu + n) / 70224 := by
  induction n generalizing s with
  | zero => rw [Nat.add_zero, Nat.div_eq_of_lt (framePhase_lt h), vBlankEntries]
  | succ n ih =>
    have lt := framePhase_lt h
    rw [vBlankEntries, ih (ppuTick_scans h), ppuTick_framePhase h]
    simp only [ppuTick_enters_iff h]
    split <;> omega

/-! ### The VBlank request and the frame bit -/

/-- The VBlank request and the frame bit are set (R476). -/
def vBlankShown (s : State) : Prop := s.intr.req.getLsbD 0 = true ∧ s.ppu.frameReady = true

theorem withPpu_vBlankShown {s : State} (h : vBlankShown s) {p : Ppu} (frame : p.frameReady = s.ppu.frameReady)
    (r : BitVec 5) : vBlankShown (withPpu p r s) := by
  refine ⟨?_, frame.trans h.2⟩
  rw [withPpu_req, BitVec.getLsbD_or, h.1, Bool.true_or]

theorem ppuTick_line144_vBlankShown {s : State} (on : lcdOn s.ppu = true) (dot : s.ppu.dot + 1 = 456)
    (line : (s.ppu.ly + 1) % 154 = 144) : vBlankShown (ppuTick s) := by
  rw [ppuTick_line144 on dot line]
  refine ⟨?_, rfl⟩
  rw [withPpu_req, BitVec.getLsbD_or, BitVec.getLsbD_or]
  simp

/-- Once set, neither is cleared by a dot. -/
theorem ppuTick_keeps_vBlankShown {s : State} (h : vBlankShown s) : vBlankShown (ppuTick s) := by
  cases dotCase s.ppu with
  | off off => rw [ppuTick_off s off]; exact h
  | pixelTransfer on visible dot => rw [ppuTick_pixelTransfer on visible dot]; exact withPpu_vBlankShown h rfl _
  | hBlank on visible dot => rw [ppuTick_hBlank on visible dot]; exact withPpu_vBlankShown h rfl _
  | visibleLine on dot line => rw [ppuTick_visibleLine on dot line]; exact withPpu_vBlankShown h rfl _
  | line144 on dot line => exact ppuTick_line144_vBlankShown on dot line
  | vBlankLine on dot line => rw [ppuTick_vBlankLine on dot line]; exact withPpu_vBlankShown h rfl _
  | counts on dot same => rw [ppuTick_counts on dot same]; exact withPpu_vBlankShown h rfl _

/-- The dot that enters line 144 sets both (R476). -/
theorem ppuTick_enters_vBlankShown {s : State} (h : Scans s.ppu) (enters : framePhase s.ppu + 1 = 70224) :
    vBlankShown (ppuTick s) := by
  have ly := h.ly
  have dot := h.dot
  rw [framePhase] at enters
  exact ppuTick_line144_vBlankShown h.on (by omega) (by omega)

/-- After an entry into line 144 both are set. -/
theorem vBlankShown_of_entry (n : Nat) {s : State} (h : Scans s.ppu) (entry : vBlankShown s ∨ vBlankEntries n s ≠ 0) :
    vBlankShown (ppuAdvance n s) := by
  induction n generalizing s with
  | zero => exact entry.resolve_right (not_not.2 rfl)
  | succ n ih =>
    rw [ppuAdvance_succ]
    refine ih (ppuTick_scans h) ?_
    obtain shown | entry := entry
    · exact .inl (ppuTick_keeps_vBlankShown shown)
    · by_cases enters : framePhase s.ppu + 1 = 70224
      · exact .inl (ppuTick_enters_vBlankShown h enters)
      · rw [vBlankEntries, if_neg ((ppuTick_enters_iff h).not.2 enters), Nat.zero_add] at entry
        exact .inr entry

/-! ### The STAT register -/

/-- The enable bits of STAT are bits 3 to 6 of what is read (R61). -/
theorem memRead_stat_enable (s : State) {k : Nat} (h : k < 4) :
    (memRead s 0xFF41).getLsbD (k + 3) = s.ppu.stat.getLsbD k := by
  have read : memRead s 0xFF41 = ioRead s .stat := (reads_register s (k := 0x41) (by omega) 0).1
  rw [read, ioRead, BitVec.getLsbD_append, if_neg (by omega), BitVec.getLsbD_append, if_neg (by omega),
    BitVec.getLsbD_append, if_pos (by omega)]
  rfl

theorem modeRequests_hBlank (s : State) : modeRequests s.ppu.stat .hBlank = (memRead s 0xFF41).getLsbD 3 :=
  (memRead_stat_enable s (k := 0) (by omega)).symm
theorem modeRequests_vBlank (s : State) : modeRequests s.ppu.stat .vBlank = (memRead s 0xFF41).getLsbD 4 :=
  (memRead_stat_enable s (k := 1) (by omega)).symm
theorem modeRequests_oamScan (s : State) : modeRequests s.ppu.stat .oamScan = (memRead s 0xFF41).getLsbD 5 :=
  (memRead_stat_enable s (k := 2) (by omega)).symm
theorem lycRequests_eq (s : State) (line : Nat) :
    lycRequests s.ppu line = ((memRead s 0xFF41).getLsbD 6 && decide (line = s.ppu.lyc.toNat)) := by
  rw [lycRequests, memRead_stat_enable s (k := 3) (by omega)]

end Sys2Proof.Machine

namespace Sys2Proof.Certificates
open Sys2Proof.Machine

/-- Settles O54: the phase of the frame overflows once in 70224 dots and ends where it began; and the branches of one
dot. -/
theorem oneFrameOneVBlank : Obligations.OneFrameOneVBlank := by
  refine ⟨fun s t ok on advanced => ?_, fun s t ticked => ?_⟩
  · have scans := (scans_iff on).2 ok
    have entries : vBlankEntries 70224 s = 1 := by
      have lt := framePhase_lt scans
      rw [vBlankEntries_eq _ scans]; omega
    have phase : framePhase (ppuAdvance 70224 s).ppu = framePhase s.ppu := by
      rw [ppuAdvance_framePhase _ scans, Nat.add_mod_right, Nat.mod_eq_of_lt (framePhase_lt scans)]
    obtain ⟨ly, dot, mode⟩ := (ppuAdvance_scans 70224 scans).eq_of_framePhase scans phase
    obtain ⟨request, frame⟩ := vBlankShown_of_entry 70224 scans (.inr (by rw [entries]; exact Nat.one_ne_zero))
    rw [advanced]
    exact ⟨ly, dot, mode, entries, request, frame⟩
  · subst ticked
    intro stat dot line lyc
    have lyc_eq : lycRequests s.ppu line = lyc := lycRequests_eq s line
    refine ⟨ppuTick_eq s, by rw [ppuTick_eq_withPpu, withPpu_ie], ppuTick_off s, fun on => ⟨fun visible hdot => ?_,
      fun visible hdot => ?_, fun hdot hline => ?_, fun hdot hline => ?_, fun hdot hline => ?_, fun hdot same => ?_⟩⟩
    · rw [ppuTick_pixelTransfer on visible (by omega)]
      generalize (renderLine s.ppu.ly s).ppu.fb = fb
      exact ⟨rfl, BitVec.or_zero⟩
    · rw [ppuTick_hBlank on visible hdot, modeRequests_hBlank]
      exact ⟨rfl, rfl⟩
    · rw [ppuTick_visibleLine on hdot hline, modeRequests_oamScan, lyc_eq]
      exact ⟨rfl, rfl⟩
    · rw [ppuTick_line144 on hdot hline, modeRequests_vBlank, ← hline, lyc_eq]
      exact ⟨rfl, (BitVec.or_assoc ..).symm⟩
    · rw [ppuTick_vBlankLine on hdot hline, lyc_eq]
      exact ⟨rfl, rfl⟩
    · rw [ppuTick_counts on hdot same]
      exact ⟨rfl, BitVec.or_zero⟩

end Sys2Proof.Certificates
end
